-- ==== Sys2Proof/Word.lean ====
section
/-! DEFINITION. The word types of the VIA (spec 00_scope.md R6, R8: every value is unsigned, bit 0 is the
least significant). -/

namespace Sys2Proof

/-- A register or bus datum: 8 bits (R6). -/
abbrev Byte := BitVec 8

/-- A timer counter: 16 bits, always unsigned (R6). -/
abbrev Word := BitVec 16

/-- The seven stored bits of IFR or IER (R32, R33). -/
abbrev FlagSet := BitVec 7

/-- A trace word, `op[15:12] rs[11:8] d[7:0]` (30_encoding.md R82). -/
abbrev TraceWord := BitVec 16

end Sys2Proof
end

