-- ==== Sys2Proof/Machine/Bits.lean ====
section
/-! DEFINITION. The bit-field helpers of 00_scope.md R8. -/

namespace Sys2Proof

/-- `w[15:8]`. -/
def hiByte (w : Word) : Byte := w.extractLsb' 8 8

/-- `w[7:0]`. -/
def loByte (w : Word) : Byte := w.extractLsb' 0 8

/-- `{hi, lo}` (R8, 20_memory.md R62). -/
def pairBytes (hi lo : Byte) : Word := hi ++ lo

/-- `b[6:0]`. -/
def low7 (b : Byte) : FlagSet := b.extractLsb' 0 7

/-- `{top, f[6:0]}`. -/
def withBit7 (top : Bool) (f : FlagSet) : Byte := BitVec.cons top f

/-- `{b[6:0], bit}`: shifted left by one, `bit` entering at bit 0. -/
def shiftLeftIn (b : Byte) (bit : Bool) : Byte := BitVec.concat (low7 b) bit

/-- The 3-bit field of `b` whose lowest bit is `low`. -/
def field3 (b : Byte) (low : Nat) : BitVec 3 := b.extractLsb' low 3

end Sys2Proof
end

