-- ==== Sys2Proof/Config.lean ====
section
/-! DEFINITION. The parameters that the spec leaves open (00_scope.md R7) as one plain-data record, and the
one free value, the answer of a port-input callback (10_state.md R41). The spec's default of every parameter
stands in Sys2Proof/Decode.lean (the register map) and Sys2Proof/Machine/Params.lean (the rest). -/

namespace Sys2Proof

/-- The 16 register slots by name (20_memory.md R60). -/
inductive Slot
  | orb | ora | ddrb | ddra | t1cl | t1ch | t1ll | t1lh
  | t2cl | t2ch | sr | acr | pcr | ifr | ier | oraNoHandshake
deriving DecidableEq, Repr

/-- `REGMAP`: which slot each of the 16 addresses selects (30_encoding.md R84). -/
structure RegMap where
  slots : Vector Slot 16
deriving DecidableEq, Repr

/-- `IFR_BITS`: the bit position of each interrupt flag, the same in IER (30_encoding.md R88, R89). -/
structure FlagBits where
  t1  : Fin 7
  t2  : Fin 7
  cb1 : Fin 7
  cb2 : Fin 7
  sr  : Fin 7
  ca1 : Fin 7
  ca2 : Fin 7
deriving DecidableEq, Repr

/-- The eight shift register modes by their 6522 names (30_encoding.md R90). -/
inductive SrMode
  | disabled | inT2 | inPhi2 | inExt | outFree | outT2 | outPhi2 | outExt
deriving DecidableEq, Repr

/-- The four clock classes of the shift register (43_shift_register.md R170). -/
inductive SrClass
  | disabled | t2 | phi2 | ext
deriving DecidableEq, Repr

/-- `ACR_LAYOUT`: bit positions of the ACR fields and the mode that each 3-bit shift code selects
(30_encoding.md R86, R90). `srModeLow` is the lowest bit of the 3-bit field. -/
structure AcrLayout where
  t1Pb7Control : Fin 8
  t1Continuous : Fin 8
  t2PulseCount : Fin 8
  srModeLow    : Fin 6
  portBLatch   : Fin 8
  portALatch   : Fin 8
  srModes      : Vector SrMode 8
deriving DecidableEq, Repr

/-- The eight CA2/CB2 line modes (30_encoding.md R87). -/
inductive LineMode
  | inputNegEdge | independentNegEdge | inputPosEdge | independentPosEdge
  | handshakeOutput | pulseOutput | fixedLow | fixedHigh
deriving DecidableEq, Repr

/-- `PCR_LAYOUT`: bit positions of the PCR fields and the line mode of each 3-bit code (30_encoding.md R87).
A `Low` field is the lowest bit of a 3-bit mode field. -/
structure PcrLayout where
  ca1Control : Fin 8
  ca2ModeLow : Fin 6
  cb1Control : Fin 8
  cb2ModeLow : Fin 6
  lineModes  : Vector LineMode 8
deriving DecidableEq, Repr

/-- `SR_SHIFT_ON`: which toggles of `cb1_state_sr` shift a bit (43_shift_register.md R177, R180). -/
inductive ShiftOn
  | every | rising | falling
deriving DecidableEq, Repr

/-- The parameters of 00_scope.md R7 but for the three callbacks, which the registration operations write
and which therefore stand in the state. -/
structure Config where
  regmap                  : RegMap
  ifrBits                 : FlagBits
  acrLayout               : AcrLayout
  pcrLayout               : PcrLayout
  /-- `HS_ACCESS_MODES` (R196): the line modes in which a data-register access moves the line. -/
  hsAccessModes           : List LineMode
  /-- `T2CL_WRITE_TOUCHES_COUNTER` (R138). -/
  t2clWriteTouchesCounter : Bool
  srShiftOn               : ShiftOn
  /-- `SR_MODE4_CLASS` (R170): the class of the mode `outFree`, code 0b100 by default. -/
  srMode4Class            : SrClass
  /-- `CLK_WIDTH` (R40): `none` is unbounded. -/
  clkWidth                : Option Nat
deriving DecidableEq, Repr

/-- The two ports, each with its input callback. -/
inductive Port
  | a | b
deriving DecidableEq, Repr

/-- FREE VALUE (10_state.md R41, 93 U5): the byte that the environment's port-input callback number `ref`
answers at its `draw`-th call, given the direction mask and the stored output byte. It has no body: nothing
can be proved about it. -/
opaque Config.freeAnswer (port : Port) (ref draw : Nat) (direction output : Byte) : Byte

end Sys2Proof
end

