-- ==== Sys2Proof/Syntax.lean ====
section
/-! DEFINITION. The operations of the device, one constructor per row of spec/opcode_table.json
(30_encoding.md R80, R97), and an operation as the environment issues it (R82). -/

namespace Sys2Proof

/-- A port-input callback as plain data (10_state.md R41, 92 D27). -/
inductive PortCallback
  /-- A law that the environment states: the function that answers `b` at the arguments `(direction mask,
  stored output byte)` of a row `((direction, output), b)`, and `other` at every other pair. -/
  | law (rows : List ((Byte × Byte) × Byte)) (other : Byte)
  /-- A callback about which nothing is stated: each call answers a free byte, `Config.freeAnswer`. -/
  | free (ref : Nat)
deriving DecidableEq, Repr

/-- The observer's receiver, known to itself only (R41: its `opaque_ref` carries nothing of the device). -/
abbrev SinkRef := Nat

/-- One operation. A WRITE carries its data byte `d`; a registration carries its function or `none`, "absent". -/
inductive Instr
  | wOrb (d : Byte) | wOra (d : Byte) | wDdrb (d : Byte) | wDdra (d : Byte)
  | wT1cl (d : Byte) | wT1ch (d : Byte) | wT1ll (d : Byte) | wT1lh (d : Byte)
  | wT2cl (d : Byte) | wT2ch (d : Byte) | wSr (d : Byte) | wAcr (d : Byte)
  | wPcr (d : Byte) | wIfr (d : Byte) | wIer (d : Byte) | wOraNoHandshake (d : Byte)
  | rOrb | rOra | rDdrb | rDdra | rT1cl | rT1ch | rT1ll | rT1lh
  | rT2cl | rT2ch | rSr | rAcr | rPcr | rIfr | rIer | rOraNoHandshake
  | execute | reset | getIrq | getRegState | getTimer1 | getTimer2 | getSr
  | setPaCb (f : Option PortCallback) | setPbCb (f : Option PortCallback) | setUpdCb (f : Option SinkRef)
deriving DecidableEq, Repr

/-- What travels beside a trace word (R82): nothing, or the function argument of op codes 9 to 11. -/
inductive Beside
  | absent
  | port (f : PortCallback)
  | sink (r : SinkRef)
deriving DecidableEq, Repr

/-- An operation as issued: its trace word and what travels beside it (R82). -/
structure Issue where
  word   : TraceWord
  beside : Beside
deriving DecidableEq, Repr

end Sys2Proof
end

