-- ==== Sys2Proof/WellFormed.lean ====
section
/-! DEFINITION. What the spec's words ask of an operation's operands and of a setting of the parameters.
Every data byte is legal for every slot (30_encoding.md R85, R92), so the one operand that can be ill-formed is
a callback law that gives two answers at one pair of arguments and so is no function (R218, R219). -/

namespace Sys2Proof

/-- No two members of the list are equal. -/
def distinct {α : Type} [DecidableEq α] : List α → Bool
  | [] => true
  | a :: as => !(as.contains a) && distinct as

/-- A law is a function: no two rows for the same arguments. -/
def PortCallback.wf : PortCallback → Bool
  | .law rows _ => distinct (rows.map (·.1))
  | .free _ => true

/-- The check of one operation; the operands of all but two rows are well-formed whatever they are. -/
def Instr.wf : Instr → Bool
  | .setPaCb (some f) => f.wf
  | .setPbCb (some f) => f.wf
  | .setPaCb none | .setPbCb none | .setUpdCb _ => true
  | .wOrb _ | .wOra _ | .wDdrb _ | .wDdra _ | .wT1cl _ | .wT1ch _ | .wT1ll _ | .wT1lh _ => true
  | .wT2cl _ | .wT2ch _ | .wSr _ | .wAcr _ | .wPcr _ | .wIfr _ | .wIer _ | .wOraNoHandshake _ => true
  | .rOrb | .rOra | .rDdrb | .rDdra | .rT1cl | .rT1ch | .rT1ll | .rT1lh => true
  | .rT2cl | .rT2ch | .rSr | .rAcr | .rPcr | .rIfr | .rIer | .rOraNoHandshake => true
  | .execute | .reset | .getIrq | .getRegState | .getTimer1 | .getTimer2 | .getSr => true

/-- Sixteen names fill the sixteen addresses exactly (30_encoding.md R84). -/
def RegMap.wf (m : RegMap) : Bool := distinct m.slots.toList

/-- Each flag has a bit of its own (30_encoding.md R88). -/
def FlagBits.wf (f : FlagBits) : Bool := distinct [f.t1, f.t2, f.cb1, f.cb2, f.sr, f.ca1, f.ca2]

/-- The six ACR fields do not overlap and each shift mode has a code of its own (30_encoding.md R86, R90). -/
def AcrLayout.wf (l : AcrLayout) : Bool :=
  distinct [l.t1Pb7Control.val, l.t1Continuous.val, l.t2PulseCount.val, l.srModeLow.val, l.srModeLow.val + 1,
    l.srModeLow.val + 2, l.portBLatch.val, l.portALatch.val] && distinct l.srModes.toList

/-- The four PCR fields do not overlap and each line mode has a code of its own (30_encoding.md R87). -/
def PcrLayout.wf (l : PcrLayout) : Bool :=
  distinct [l.ca1Control.val, l.cb1Control.val, l.ca2ModeLow.val, l.ca2ModeLow.val + 1, l.ca2ModeLow.val + 2,
    l.cb2ModeLow.val, l.cb2ModeLow.val + 1, l.cb2ModeLow.val + 2] && distinct l.lineModes.toList

/-- A setting of the parameters that the spec's words allow. -/
def Config.wf (c : Config) : Bool := c.regmap.wf && c.ifrBits.wf && c.acrLayout.wf && c.pcrLayout.wf

end Sys2Proof
end

