-- ==== Sys2Proof/Decode.lean ====
section
/-! DEFINITION. Decoding of trace words and, after it, encoding (30_encoding.md R82, R84, R92, R97). The trace
word is one 16-bit value; the spec gives it no byte order (log 20). -/

namespace Sys2Proof

/-- Why the decoder refuses an issued operation; each is a defect of the trace, not a device behaviour. -/
inductive DecodeError
  /-- Op codes 12 to 15 name no operation (R92). -/
  | reservedOpcode (op : BitVec 4)
  /-- A sink beside a port registration, or a port function beside the observer's (R218 to R220). -/
  | operandMismatch
  /-- A callback law with two answers at one pair of arguments (R218, R219). -/
  | notAFunction
deriving DecidableEq, Repr

/-- What decoding gives. -/
inductive Decoded
  | instr (i : Instr)
  | rejected (e : DecodeError)
deriving DecidableEq, Repr

/-- `REGMAP` at its default, the standard 6522 assignment (R84, 93 K1). -/
def RegMap.default : RegMap :=
  { slots := #v[.orb, .ora, .ddrb, .ddra, .t1cl, .t1ch, .t1ll, .t1lh,
      .t2cl, .t2ch, .sr, .acr, .pcr, .ifr, .ier, .oraNoHandshake] }

/-- The slot that a 4-bit address selects; every address selects one (R60). -/
def RegMap.slotAt (m : RegMap) (rs : BitVec 4) : Slot := m.slots[rs.toNat]

/-- An address wider than 4 bits is reduced to its low 4 bits first (20_memory.md R68, 92 D29). -/
def RegMap.busSlot (m : RegMap) (addr : Nat) : Slot := m.slotAt (BitVec.ofNat 4 addr)

/-- The address of a slot: the first one that the map gives it. -/
def RegMap.address (m : RegMap) (sl : Slot) : BitVec 4 := BitVec.ofNat 4 (m.slots.toList.idxOf sl)

/-- `op[15:12]` of a trace word. -/
def opField (w : TraceWord) : BitVec 4 := w.extractLsb' 12 4

/-- `rs[11:8]` of a trace word. -/
def rsField (w : TraceWord) : BitVec 4 := w.extractLsb' 8 4

/-- `d[7:0]` of a trace word. -/
def dField (w : TraceWord) : Byte := w.extractLsb' 0 8

/-- The bus write of a byte to a slot, `MemWrite` of R10. -/
def writeInstr (d : Byte) : Slot → Instr
  | .orb => .wOrb d | .ora => .wOra d | .ddrb => .wDdrb d | .ddra => .wDdra d
  | .t1cl => .wT1cl d | .t1ch => .wT1ch d | .t1ll => .wT1ll d | .t1lh => .wT1lh d
  | .t2cl => .wT2cl d | .t2ch => .wT2ch d | .sr => .wSr d | .acr => .wAcr d
  | .pcr => .wPcr d | .ifr => .wIfr d | .ier => .wIer d | .oraNoHandshake => .wOraNoHandshake d

/-- The bus read of a slot, `MemRead` of R10. -/
def readInstr : Slot → Instr
  | .orb => .rOrb | .ora => .rOra | .ddrb => .rDdrb | .ddra => .rDdra
  | .t1cl => .rT1cl | .t1ch => .rT1ch | .t1ll => .rT1ll | .t1lh => .rT1lh
  | .t2cl => .rT2cl | .t2ch => .rT2ch | .sr => .rSr | .acr => .rAcr
  | .pcr => .rPcr | .ifr => .rIfr | .ier => .rIer | .oraNoHandshake => .rOraNoHandshake

/-- The function operand of SETPACB or SETPBCB (R218, R219), made an operation by `mk`. -/
def decodePortOperand (mk : Option PortCallback → Instr) : Beside → Decoded
  | .absent => .instr (mk none)
  | .port f => if f.wf then .instr (mk (some f)) else .rejected .notAFunction
  | .sink _ => .rejected .operandMismatch

/-- The sink operand of SETUPDCB (R220). -/
def decodeSinkOperand : Beside → Decoded
  | .absent => .instr (.setUpdCb none)
  | .sink r => .instr (.setUpdCb (some r))
  | .port _ => .rejected .operandMismatch

/-- Decoding (R97): `op` first; for op codes 0 and 1 `rs` selects the slot; nothing else is decoded. `rs` and `d`
of op codes 2 to 11, `d` of a READ, and what stands beside a word that takes no function are ignored (R82). -/
def decode (m : RegMap) (w : TraceWord) (b : Beside) : Decoded :=
  match (opField w).toNat with
  | 0 => .instr (writeInstr (dField w) (m.slotAt (rsField w)))
  | 1 => .instr (readInstr (m.slotAt (rsField w)))
  | 2 => .instr .execute
  | 3 => .instr .reset
  | 4 => .instr .getIrq
  | 5 => .instr .getRegState
  | 6 => .instr .getTimer1
  | 7 => .instr .getTimer2
  | 8 => .instr .getSr
  | 9 => decodePortOperand .setPaCb b
  | 10 => decodePortOperand .setPbCb b
  | 11 => decodeSinkOperand b
  | _ => .rejected (.reservedOpcode (opField w))

/-- The operation that the decoder reads from a table row's word, at the default register map and with nothing
beside the word. -/
def decodeTableWord (nbits w : Nat) : Option Instr :=
  match decode RegMap.default (BitVec.ofNat 16 (w % 2 ^ nbits)) .absent with
  | .instr i => some i
  | .rejected _ => none

/-! ### Encoding -/

/-- The trace word with the three fields of R82. -/
def traceWord (op rs : BitVec 4) (d : Byte) : TraceWord := op ++ rs ++ d

/-- A WRITE of `d` to a slot: op code 0. -/
def encodeWrite (m : RegMap) (sl : Slot) (d : Byte) : Issue := ⟨traceWord 0 (m.address sl) d, .absent⟩

/-- A READ of a slot: op code 1, `d` written as 0. -/
def encodeRead (m : RegMap) (sl : Slot) : Issue := ⟨traceWord 1 (m.address sl) 0, .absent⟩

/-- An operation of op codes 2 to 11: `rs` and `d` written as 0. -/
def encodeHost (op : BitVec 4) (b : Beside) : Issue := ⟨traceWord op 0 0, b⟩

/-- What stands beside a port registration. -/
def besidePort : Option PortCallback → Beside
  | none => .absent
  | some f => .port f

/-- What stands beside the observer's registration. -/
def besideSink : Option SinkRef → Beside
  | none => .absent
  | some r => .sink r

/-- The encoding of an operation under a register map (R82, R84, R94). -/
def encode (m : RegMap) : Instr → Issue
  | .wOrb d => encodeWrite m .orb d
  | .wOra d => encodeWrite m .ora d
  | .wDdrb d => encodeWrite m .ddrb d
  | .wDdra d => encodeWrite m .ddra d
  | .wT1cl d => encodeWrite m .t1cl d
  | .wT1ch d => encodeWrite m .t1ch d
  | .wT1ll d => encodeWrite m .t1ll d
  | .wT1lh d => encodeWrite m .t1lh d
  | .wT2cl d => encodeWrite m .t2cl d
  | .wT2ch d => encodeWrite m .t2ch d
  | .wSr d => encodeWrite m .sr d
  | .wAcr d => encodeWrite m .acr d
  | .wPcr d => encodeWrite m .pcr d
  | .wIfr d => encodeWrite m .ifr d
  | .wIer d => encodeWrite m .ier d
  | .wOraNoHandshake d => encodeWrite m .oraNoHandshake d
  | .rOrb => encodeRead m .orb
  | .rOra => encodeRead m .ora
  | .rDdrb => encodeRead m .ddrb
  | .rDdra => encodeRead m .ddra
  | .rT1cl => encodeRead m .t1cl
  | .rT1ch => encodeRead m .t1ch
  | .rT1ll => encodeRead m .t1ll
  | .rT1lh => encodeRead m .t1lh
  | .rT2cl => encodeRead m .t2cl
  | .rT2ch => encodeRead m .t2ch
  | .rSr => encodeRead m .sr
  | .rAcr => encodeRead m .acr
  | .rPcr => encodeRead m .pcr
  | .rIfr => encodeRead m .ifr
  | .rIer => encodeRead m .ier
  | .rOraNoHandshake => encodeRead m .oraNoHandshake
  | .execute => encodeHost 2 .absent
  | .reset => encodeHost 3 .absent
  | .getIrq => encodeHost 4 .absent
  | .getRegState => encodeHost 5 .absent
  | .getTimer1 => encodeHost 6 .absent
  | .getTimer2 => encodeHost 7 .absent
  | .getSr => encodeHost 8 .absent
  | .setPaCb f => encodeHost 9 (besidePort f)
  | .setPbCb f => encodeHost 10 (besidePort f)
  | .setUpdCb f => encodeHost 11 (besideSink f)

end Sys2Proof
end

