-- ==== Sys2Proof/Machine/Params.lean ====
section
/-! DEFINITION. The default of every parameter of 00_scope.md R7 (the register map's stands in
Sys2Proof/Decode.lean). The positions and codes are the spec's general-knowledge defaults (93 K2 to K5, log 10). -/

namespace Sys2Proof

/-- `IFR_BITS` at its default (30_encoding.md R88). -/
def FlagBits.default : FlagBits := { t1 := 6, t2 := 5, cb1 := 4, cb2 := 3, sr := 2, ca1 := 1, ca2 := 0 }

/-- `ACR_LAYOUT` at its default (30_encoding.md R86, R90). -/
def AcrLayout.default : AcrLayout :=
  { t1Pb7Control := 7, t1Continuous := 6, t2PulseCount := 5, srModeLow := 2, portBLatch := 1, portALatch := 0
    srModes := #v[.disabled, .inT2, .inPhi2, .inExt, .outFree, .outT2, .outPhi2, .outExt] }

/-- `PCR_LAYOUT` at its default (30_encoding.md R87). -/
def PcrLayout.default : PcrLayout :=
  { ca1Control := 0, ca2ModeLow := 1, cb1Control := 4, cb2ModeLow := 5
    lineModes := #v[.inputNegEdge, .independentNegEdge, .inputPosEdge, .independentPosEdge,
      .handshakeOutput, .pulseOutput, .fixedLow, .fixedHigh] }

/-- Every parameter at its default (R7). -/
def Config.default : Config :=
  { regmap := RegMap.default
    ifrBits := FlagBits.default
    acrLayout := AcrLayout.default
    pcrLayout := PcrLayout.default
    hsAccessModes := [.handshakeOutput, .pulseOutput]
    t2clWriteTouchesCounter := false
    srShiftOn := .every
    srMode4Class := .t2
    clkWidth := none }

end Sys2Proof
end

