-- ==== Sys2Proof/Machine/Device.lean ====
section
/-! DEFINITION. The device's state record, element by element as 10_state.md R20 lists it, and its value after
RESET (R47, 45_host_operations.md R210). -/

namespace Sys2Proof.Machine

/-- The record of Timer 1 or Timer 2 (10_state.md R36, R37). -/
structure Timer where
  counter : Word
  enabled : Bool
  /-- "already fired since its last load". -/
  oneShot : Bool
deriving DecidableEq, Repr

/-- The control record of the shift register (10_state.md R38). -/
structure ShiftUnit where
  enabled : Bool
  shifted : Nat
  counter : Byte
deriving DecidableEq, Repr

/-- The state record of R20. A line level is `true` for 1, high (R39). `IFR[7]` and `IER[7]` are not stored
(R32, R33); there is no T1CL/T1CH storage (R26). -/
structure Device where
  ora        : Byte
  orb        : Byte
  ddra       : Byte
  ddrb       : Byte
  t1ll       : Byte
  t1lh       : Byte
  t2cl       : Byte
  t2ch       : Byte
  sr         : Byte
  acr        : Byte
  pcr        : Byte
  ifr        : FlagSet
  ier        : FlagSet
  pb7        : Byte
  ira        : Byte
  irb        : Byte
  iraLatch   : Byte
  irbLatch   : Byte
  t1         : Timer
  t2         : Timer
  shift      : ShiftUnit
  ca1State   : Bool
  ca2State   : Bool
  cb1State   : Bool
  cb1StateSr : Bool
  cb2State   : Bool
  cb2StateSr : Bool
  clk        : Nat
deriving DecidableEq, Repr

/-- The device after RESET (R47, R210). -/
def Device.reset : Device :=
  { ora := 0x00, orb := 0x00, ddra := 0x00, ddrb := 0x00
    t1ll := 0x00, t1lh := 0x00, t2cl := 0x00, t2ch := 0x00
    sr := 0x00, acr := 0x00, pcr := 0x00
    ifr := 0, ier := 0
    pb7 := 0x80
    ira := 0x00, irb := 0x00, iraLatch := 0x00, irbLatch := 0x00
    t1 := { counter := 0x0000, enabled := false, oneShot := false }
    t2 := { counter := 0x0000, enabled := false, oneShot := false }
    shift := { enabled := false, shifted := 0, counter := 0x00 }
    ca1State := false, ca2State := true
    cb1State := false, cb1StateSr := false
    cb2State := true, cb2StateSr := false
    clk := 0 }

end Sys2Proof.Machine
end

