-- ==== Sys2Proof/Machine/State.lean ====
section
/-! DEFINITION. The state of the machine: the device, the environment's bindings, the parameters, the operations
issued and the last answer; and the reasons a step can stop. -/

namespace Sys2Proof.Machine

/-- The reasons the device stops with a fault: NONE. "A model's step function for this device is total and never
returns a fault" (60_exceptions.md R230), so the type has no constructor. -/
inductive Fault : Type
deriving DecidableEq, Repr

/-- The reasons the model refuses a step. The last three are raised by `fetch` for a defect of the trace, never by
an operation's meaning, and are safe: nothing can be proved about a run that has such a defect. -/
inductive Refusal
  /-- Raised by a refused arm of `exec`, an operation without a meaning; safe. No arm is one. -/
  | notModelled (mnemonic : String)
  /-- Raised by `fetch` for op codes 12 to 15, which a model refuses (30_encoding.md R92, 93 U16); safe. -/
  | reservedOpcode (op : BitVec 4)
  /-- Raised by `fetch` for a registration with an operand of the wrong kind (45_host_operations.md R218 to
  R220); safe. -/
  | operandMismatch
  /-- Raised by `fetch` for a callback law that is no function (R218, R219); safe. -/
  | notAFunction
deriving DecidableEq, Repr

/-- What the observer is given (44_port_io_handshake.md R204): `(ORA, EffB(), ca1_state, ca2_state, EffCB1(),
EffCB2())`. -/
structure Observation where
  ora   : Byte
  portB : Byte
  ca1   : Bool
  ca2   : Bool
  cb1   : Bool
  cb2   : Bool
deriving DecidableEq, Repr

/-- One call of a registered callback: an input callback with its two arguments and its answer (R191, R193), or
the observer with its tuple (R204). -/
inductive EnvCall
  | portA (direction output answer : Byte)
  | portB (direction output answer : Byte)
  | observed (sink : SinkRef) (o : Observation)
deriving DecidableEq, Repr

/-- The environment's bindings (10_state.md R41) and what passed between the device and it. -/
structure Env where
  portACb  : Option PortCallback
  portBCb  : Option PortCallback
  updateCb : Option SinkRef
  /-- Calls of the port-A callback so far: the draw at which the next free answer is taken. -/
  drawsA   : Nat
  /-- Calls of the port-B callback so far. -/
  drawsB   : Nat
  /-- The callback calls made, newest first. -/
  calls    : List EnvCall
deriving DecidableEq, Repr

/-- What an operation returns to its caller (30_encoding.md R80, column "result"). -/
inductive Result
  | nothing
  | byte (b : Byte)
  /-- The 16 bytes `v[0..15]` of GETREGSTATE, in address order (R216). -/
  | registers (v : List Byte)
  | timer (t : Timer)
  | shiftUnit (u : ShiftUnit)
deriving DecidableEq, Repr

structure State where
  /-- The device (10_state.md R20). -/
  dev     : Device
  /-- The environment's bindings (R41). -/
  env     : Env
  /-- The parameters (00_scope.md R7); no operation changes them. -/
  cfg     : Config
  /-- What the last operation returned. -/
  result  : Result
  /-- The operations issued and not yet run, oldest first (00_scope.md R11). -/
  pending : List Issue
deriving DecidableEq, Repr

/-- A constructed device: the reset state, no callback registered (45_host_operations.md R221), every parameter at
its default, no operation issued. -/
def State.reset : State :=
  { dev := Device.reset
    env := { portACb := none, portBCb := none, updateCb := none, drawsA := 0, drawsB := 0, calls := [] }
    cfg := Config.default
    result := .nothing
    pending := [] }

end Sys2Proof.Machine
end

