-- ==== Sys2Proof/Machine/Operands.lean ====
section
/-! DEFINITION. The fields of the control registers, read through the layout parameters (30_encoding.md R86, R87,
R90), and the modes that the rules test. -/

namespace Sys2Proof

/-! ### ACR -/

/-- Timer 1 controls PB7: `ACR[7]` by default (R86). -/
def Config.pb7Control (c : Config) (acr : Byte) : Bool := acr.getLsbD c.acrLayout.t1Pb7Control.val

/-- Timer 1 is continuous: `ACR[6]` by default (R86). -/
def Config.t1IsContinuous (c : Config) (acr : Byte) : Bool := acr.getLsbD c.acrLayout.t1Continuous.val

/-- Timer 2 counts pulses: `ACR[5]` by default (R86). -/
def Config.t2CountsPulses (c : Config) (acr : Byte) : Bool := acr.getLsbD c.acrLayout.t2PulseCount.val

/-- `SR_MODE`, `ACR[4:2]` by default, by name (R90). -/
def Config.srMode (c : Config) (acr : Byte) : SrMode :=
  c.acrLayout.srModes[(field3 acr c.acrLayout.srModeLow.val).toNat]

/-- The clock class of a shift mode (43_shift_register.md R170). -/
def Config.classOf (c : Config) : SrMode → SrClass
  | .disabled => .disabled
  | .inT2 | .outT2 => .t2
  | .outFree => c.srMode4Class
  | .inPhi2 | .outPhi2 => .phi2
  | .inExt | .outExt => .ext

/-- `SRClass(ACR[4:2])` (R170). -/
def Config.srClass (c : Config) (acr : Byte) : SrClass := c.classOf (c.srMode acr)

/-- A shift-out mode; `ACR[4] = 1` at the default codes (R90). -/
def SrMode.isOut : SrMode → Bool
  | .outFree | .outT2 | .outPhi2 | .outExt => true
  | .disabled | .inT2 | .inPhi2 | .inExt => false

/-- The direction is out: `ACR[4]` by default (R90). -/
def Config.shiftsOut (c : Config) (acr : Byte) : Bool := (c.srMode acr).isOut

/-- `ShiftsOn(level)` (43_shift_register.md R177). -/
def Config.shiftsOn (c : Config) (level : Bool) : Bool :=
  match c.srShiftOn with
  | .every => true
  | .rising => level
  | .falling => !level

/-! ### PCR -/

/-- `CA2_MODE`, `PCR[3:1]` by default, by name (R87). -/
def Config.ca2Mode (c : Config) (pcr : Byte) : LineMode :=
  c.pcrLayout.lineModes[(field3 pcr c.pcrLayout.ca2ModeLow.val).toNat]

/-- `CB2_MODE`, `PCR[7:5]` by default, by name (R87). -/
def Config.cb2Mode (c : Config) (pcr : Byte) : LineMode :=
  c.pcrLayout.lineModes[(field3 pcr c.pcrLayout.cb2ModeLow.val).toNat]

/-- The mode is in `HS_ACCESS_MODES` (44_port_io_handshake.md R196). -/
def Config.movesOnAccess (c : Config) (m : LineMode) : Bool := c.hsAccessModes.contains m

/-! ### The named masks of R96 -/

/-- The mask of the 3-bit field whose lowest bit is `low`. -/
def mask3 (low : Nat) : Byte := 7#8 <<< low

/-- `CA2_MASK`. -/
def Config.ca2Mask (c : Config) : Byte := mask3 c.pcrLayout.ca2ModeLow.val

/-- The CB2 field's mask. -/
def Config.cb2Mask (c : Config) : Byte := mask3 c.pcrLayout.cb2ModeLow.val

/-- `SR_MASK`. -/
def Config.srMask (c : Config) : Byte := mask3 c.acrLayout.srModeLow.val

/-- `T1_PB7_CONTROL`. -/
def Config.t1Pb7ControlMask (c : Config) : Byte := 1#8 <<< c.acrLayout.t1Pb7Control.val

end Sys2Proof
end

