-- ==== Sys2Proof/Machine/Flags.lean ====
section
/-! DEFINITION. The interrupt controller (60_exceptions.md R231 to R234). The device has no other flags
(10_state.md R44). -/

namespace Sys2Proof

/-- The mask of the flag at bit `i`, as the 8-bit mask that `set_ifr` takes (R232). -/
def flagMask (i : Fin 7) : Byte := 1#8 <<< i.val

/-- `T1_INT` (30_encoding.md R88). -/
def Config.t1Int (c : Config) : Byte := flagMask c.ifrBits.t1

/-- `T2_INT` (R88). -/
def Config.t2Int (c : Config) : Byte := flagMask c.ifrBits.t2

/-- `SR_INT` (R88). -/
def Config.srInt (c : Config) : Byte := flagMask c.ifrBits.sr

/-- The mask of the four handshake-line flags, which no rule sets (60_exceptions.md R236). -/
def Config.lineInts (c : Config) : Byte :=
  flagMask c.ifrBits.cb1 ||| flagMask c.ifrBits.cb2 ||| flagMask c.ifrBits.ca1 ||| flagMask c.ifrBits.ca2

namespace Machine

/-- `set_ifr(mask, value)` (R232): bit 7 of the mask is ignored, and IFR bit 7 is derived, so there is nothing else
to store. -/
def setIfr (mask : Byte) (value : Bool) (v : Device) : Device :=
  { v with ifr := if value then v.ifr ||| low7 mask else v.ifr &&& ~~~ low7 mask }

/-- `set_ier(data)` (R233): `data[7]` selects set or clear. -/
def setIer (data : Byte) (v : Device) : Device :=
  { v with ier := if data.getLsbD 7 then v.ier ||| low7 data else v.ier &&& ~~~ low7 data }

/-- `IRQ()`, the composite interrupt signal (R234): some flag is both set and enabled. -/
def irq (v : Device) : Bool := v.ifr &&& v.ier != 0

/-- What slot IFR reads as: `{IRQ(), IFR[6:0]}` (40_register_read.md R123). -/
def ifrByte (v : Device) : Byte := withBit7 (irq v) v.ifr

/-- What slot IER reads as: `0x80 | IER[6:0]` (40_register_read.md R124). -/
def ierByte (v : Device) : Byte := withBit7 true v.ier

/-- What GETIRQ returns (45_host_operations.md R212). Only zero or nonzero is normative (93 U13, log 12). -/
def irqByte (v : Device) : Byte := if irq v then 0x80 else 0x00

end Machine

end Sys2Proof
end

