-- ==== Sys2Proof/Machine/Ops.lean ====
section
/-! DEFINITION. The operations that the meanings share: ending an operation with its result, the port inputs and
effective port values (44_port_io_handshake.md R190 to R194), the line rules (R196, R200, R202, R203) and the slot
view (20_memory.md R60). The device takes no exception and returns from none (60_exceptions.md R230, R239). -/

namespace Sys2Proof.Machine

/-! ### Ending an operation -/

/-- The operation returns nothing and leaves the device as `v`. -/
def finish (s : State) (v : Device) : Host.Outcome State Fault Refusal :=
  .next { s with dev := v, result := .nothing }

/-- The operation returns `r` and leaves the device as `v`, the environment as `e`. -/
def reply (s : State) (v : Device) (e : Env) (r : Result) : Host.Outcome State Fault Refusal :=
  .next { s with dev := v, env := e, result := r }

/-- A bus read that returns `b`, leaves the device as `v` and calls nothing. -/
def replyByte (s : State) (v : Device) (b : Byte) : Host.Outcome State Fault Refusal := reply s v s.env (.byte b)

/-! ### Port inputs -/

/-- The answer in a law's table: the first row for the arguments, else `other`. -/
def lawAnswer (other : Byte) (args : Byte × Byte) : List ((Byte × Byte) × Byte) → Byte
  | [] => other
  | (k, b) :: rest => if k = args then b else lawAnswer other args rest

/-- The byte that a registered callback answers at its `draw`-th call (10_state.md R41). -/
def callbackAnswer (p : Port) (draw : Nat) (direction output : Byte) : PortCallback → Byte
  | .law rows other => lawAnswer other (direction, output) rows
  | .free ref => Config.freeAnswer p ref draw direction output

/-- `PortAIn()` (R191): one call of the callback with `DDRA` and `ORA`, or 0x00 and no call. -/
def portAIn (v : Device) (e : Env) : Byte × Env :=
  match e.portACb with
  | none => (0x00, e)
  | some f =>
    let b := callbackAnswer .a e.drawsA v.ddra v.ora f
    (b, { e with drawsA := e.drawsA + 1, calls := .portA v.ddra v.ora b :: e.calls })

/-- `PortBIn()` (R193): one call of the callback with `DDRB` and `ORB`, or 0x00 and no call. -/
def portBIn (v : Device) (e : Env) : Byte × Env :=
  match e.portBCb with
  | none => (0x00, e)
  | some f =>
    let b := callbackAnswer .b e.drawsB v.ddrb v.orb f
    (b, { e with drawsB := e.drawsB + 1, calls := .portB v.ddrb v.orb b :: e.calls })

/-- The rule of both ports (R190): the output bit where the direction bit is 1, else the input bit. -/
def mergePort (output direction input : Byte) : Byte := (output &&& direction) ||| (input &&& ~~~ direction)

/-- Timer 1's drive of bit 7 of port B (R194). -/
def drivePb7 (c : Config) (v : Device) (b : Byte) : Byte :=
  if c.pb7Control v.acr then (b &&& 0x7F) ||| v.pb7 else b

/-- `EffA()` (R192), and the environment after it. -/
def effA (v : Device) (e : Env) : Byte × Env :=
  (mergePort v.ora v.ddra (portAIn v e).1, (portAIn v e).2)

/-- `EffB()` (R194), and the environment after it. -/
def effB (c : Config) (v : Device) (e : Env) : Byte × Env :=
  (drivePb7 c v (mergePort v.orb v.ddrb (portBIn v e).1), (portBIn v e).2)

/-! ### Handshake lines -/

/-- A data-register access drives CA2 to `level` if its mode reacts to accesses (R196, R197). -/
def accessCa2 (c : Config) (level : Bool) (v : Device) : Device :=
  { v with ca2State := if c.movesOnAccess (c.ca2Mode v.pcr) then level else v.ca2State }

/-- A data-register access drives CB2 to `level` if its mode reacts to accesses (R196, R198). -/
def accessCb2 (c : Config) (level : Bool) (v : Device) : Device :=
  { v with cb2State := if c.movesOnAccess (c.cb2Mode v.pcr) then level else v.cb2State }

/-- The level that a PCR write gives a line: low in the fixed-output-low mode, else high (41_register_write.md R142). -/
def pcrWriteLevel (m : LineMode) : Bool := m != .fixedLow

/-- `EffCB1()` (R202): the shift clock in the internally clocked classes, else the plain line. -/
def effCb1 (c : Config) (v : Device) : Bool :=
  match c.srClass v.acr with
  | .t2 | .phi2 => v.cb1StateSr
  | .disabled | .ext => v.cb1State

/-- `EffCB2()` (R203): the shifted bit in a shift-out mode, else the plain line. -/
def effCb2 (c : Config) (v : Device) : Bool := if c.shiftsOut v.acr then v.cb2StateSr else v.cb2State

/-! ### Stopping and loading the timers -/

/-- Timer 1's drive of PB7, which every writer of `PB7` gates by `ACR[7]` (10_state.md R34). -/
def setPb7 (c : Config) (level : Byte) (v : Device) : Device :=
  { v with pb7 := if c.pb7Control v.acr then level else v.pb7 }

/-! ### The slot view -/

/-- What a slot shows, given the two effective port values; it changes nothing (45_host_operations.md R216). -/
def slotView (portA portB : Byte) (v : Device) : Slot → Byte
  | .orb => portB
  | .ora => portA
  | .ddrb => v.ddrb
  | .ddra => v.ddra
  | .t1cl => loByte v.t1.counter
  | .t1ch => hiByte v.t1.counter
  | .t1ll => v.t1ll
  | .t1lh => v.t1lh
  | .t2cl => loByte v.t2.counter
  | .t2ch => hiByte v.t2.counter
  | .sr => v.sr
  | .acr => v.acr
  | .pcr => v.pcr
  | .ifr => ifrByte v
  | .ier => ierByte v
  | .oraNoHandshake => portA

end Sys2Proof.Machine
end

