-- ==== Sys2Proof/Machine/Shift.lean ====
section
/-! DEFINITION. The shift register's part of EXECUTE (43_shift_register.md R170 to R183), as its rules decide it
(log 11). -/

namespace Sys2Proof.Machine

/-- `SRShiftOneBit()` (R178): out rotates left, bit 7 going to the CB2 value; in takes the CB2 level at bit 0. -/
def srShiftOneBit (c : Config) (v : Device) : Device :=
  if c.shiftsOut v.acr then
    { v with cb2StateSr := v.sr.getLsbD 7, sr := shiftLeftIn v.sr (v.sr.getLsbD 7) }
  else
    { v with sr := shiftLeftIn v.sr v.cb2State }

/-- `SRComplete()` (R179): the flag, and shifting stops. -/
def srComplete (c : Config) (v : Device) : Device :=
  let v1 := setIfr c.srInt true v
  { v1 with shift := { v1.shift with enabled := false } }

/-- `SRUpdate(level)` (R177): while enabled, one bit moves and is counted; the eighth completes. -/
def srUpdate (c : Config) (level : Bool) (v : Device) : Device :=
  if v.shift.enabled && c.shiftsOn level then
    let v1 := srShiftOneBit c v
    let v2 := { v1 with shift := { v1.shift with shifted := v1.shift.shifted + 1 } }
    if v2.shift.shifted = 8 then srComplete c v2 else v2
  else v

/-- The shift clock ticks in this EXECUTE (R174): always in class PHI2, in class T2 when `sr.counter` is 0 at the start
of the cycle. -/
def srClockTicks (c : Config) (v : Device) : Bool :=
  match c.srClass v.acr with
  | .phi2 => true
  | .t2 => v.shift.counter = 0x00
  | .disabled | .ext => false

/-- `SRClock()` (R174): a tick toggles the shift-register-driven CB1 value, whether or not the unit is enabled, and
updates with the new level. -/
def srClock (c : Config) (v : Device) : Device :=
  if srClockTicks c v then
    let v1 := { v with cb1StateSr := !v.cb1StateSr }
    srUpdate c v1.cb1StateSr v1
  else v

/-- `SRSubCounter()` (R181): decrements in every EXECUTE; on the wrap it is reloaded from the stored `T2CL`. -/
def srSubCounter (v : Device) : Device :=
  { v with shift := { v.shift with
      counter := if v.shift.counter = 0x00 then v.t2cl else v.shift.counter - 1 } }

end Sys2Proof.Machine
end

