-- ==== Sys2Proof/Machine/Timers.lean ====
section
/-! DEFINITION. The two timer steps of EXECUTE (42_execute_timers.md R151 to R157). -/

namespace Sys2Proof.Machine

/-- `T1Continuous()` (R153): the flag, `PB7` toggled under PB7 control, the counter reloaded from the latch. -/
def t1ContinuousWrap (c : Config) (v : Device) : Device :=
  let v1 := setPb7 c (v.pb7 ^^^ 0x80) (setIfr c.t1Int true v)
  { v1 with t1 := { v1.t1 with counter := pairBytes v1.t1lh v1.t1ll } }

/-- `T1OneShot()` (R154): on the first wrap after a load the flag, `PB7` high under PB7 control, and "fired". -/
def t1OneShotWrap (c : Config) (v : Device) : Device :=
  if v.t1.oneShot then v
  else
    let v1 := setPb7 c 0x80 (setIfr c.t1Int true v)
    { v1 with t1 := { v1.t1 with oneShot := true } }

/-- `T1Step()` (R151): an enabled counter decrements; the wrap from 0 is the trigger, the mode is sampled then. -/
def t1Step (c : Config) (v : Device) : Device :=
  if v.t1.enabled then
    let v1 := { v with t1 := { v.t1 with counter := v.t1.counter - 1 } }
    if v.t1.counter = 0x0000 then
      if c.t1IsContinuous v.acr then t1ContinuousWrap c v1 else t1OneShotWrap c v1
    else v1
  else v

/-- `T2Step()` (R156): an enabled counter in the timed one-shot mode decrements; the first wrap after a load sets the
flag. In pulse-counting mode nothing happens (R157). -/
def t2Step (c : Config) (v : Device) : Device :=
  if v.t2.enabled && !c.t2CountsPulses v.acr then
    let v1 := { v with t2 := { v.t2 with counter := v.t2.counter - 1 } }
    if v.t2.counter = 0x0000 ∧ v.t2.oneShot = false then
      let v2 := setIfr c.t2Int true v1
      { v2 with t2 := { v2.t2 with oneShot := true } }
    else v1
  else v

end Sys2Proof.Machine
end

