-- ==== Sys2Proof/Machine/Execute.lean ====
section
/-! DEFINITION. EXECUTE, the per-cycle step (42_execute_timers.md R150): the order of its parts is fixed. -/

namespace Sys2Proof.Machine

/-- What the observer is told (44_port_io_handshake.md R204), given the effective port-B value. -/
def observation (c : Config) (v : Device) (portB : Byte) : Observation :=
  { ora := v.ora, portB := portB, ca1 := v.ca1State, ca2 := v.ca2State, cb1 := effCb1 c v, cb2 := effCb2 c v }

/-- `Observe()` (R204): the registered observer is called once; `EffB()` is evaluated only then. -/
def observe (c : Config) (v : Device) (e : Env) : Env :=
  match e.updateCb with
  | none => e
  | some r =>
    let p := effB c v e
    { p.2 with calls := .observed r (observation c v p.1) :: p.2.calls }

/-- `PulseRestore()` (R200): a line in pulse-output mode is forced back to 1. -/
def pulseRestore (c : Config) (v : Device) : Device :=
  { v with
    ca2State := if c.ca2Mode v.pcr = .pulseOutput then true else v.ca2State
    cb2State := if c.cb2Mode v.pcr = .pulseOutput then true else v.cb2State }

/-- `clk + 1` at `CLK_WIDTH` (R159, 10_state.md R40). -/
def clkSucc (c : Config) (n : Nat) : Nat :=
  match c.clkWidth with
  | none => n + 1
  | some w => (n + 1) % 2 ^ w

/-- The device at the observer call: after the timer and shift steps, before the pulse restore. -/
def deviceAtObserve (c : Config) (v : Device) : Device := srSubCounter (srClock c (t2Step c (t1Step c v)))

/-- The device after an EXECUTE. -/
def executeDevice (c : Config) (v : Device) : Device :=
  let v1 := pulseRestore c (deviceAtObserve c v)
  { v1 with clk := clkSucc c v1.clk }

/-- EXECUTE (R150). -/
def execExecute (s : State) : Host.Outcome State Fault Refusal :=
  reply s (executeDevice s.cfg s.dev) (observe s.cfg (deviceAtObserve s.cfg s.dev) s.env) .nothing

end Sys2Proof.Machine
end

