-- ==== Sys2Proof/Machine/HostOps.lean ====
section
/-! DEFINITION. Reset, the five queries and the three registrations (45_host_operations.md R210 to R220). -/

namespace Sys2Proof.Machine

/-- RESET (R210): a constant function on the device; the registered callbacks are kept (R47, 92 D22). -/
def execReset (s : State) : Host.Outcome State Fault Refusal := finish s Device.reset

/-- GETIRQ (R212). -/
def execGetIrq (s : State) : Host.Outcome State Fault Refusal := reply s s.dev s.env (.byte (irqByte s.dev))

/-- The environment after the snapshot's one evaluation of each port, port B (slot 0) first (log 13). -/
def snapshotEnv (s : State) : Env := (effA s.dev (effB s.cfg s.dev s.env).2).2

/-- The 16 bytes of the snapshot in address order (R216). -/
def snapshot (s : State) : List Byte :=
  let b := effB s.cfg s.dev s.env
  s.cfg.regmap.slots.toList.map (slotView (effA s.dev b.2).1 b.1 s.dev)

/-- GETREGSTATE (R216): what a READ of each slot would return, with none of READ's state changes. -/
def execGetRegState (s : State) : Host.Outcome State Fault Refusal :=
  reply s s.dev (snapshotEnv s) (.registers (snapshot s))

/-- GETTIMER1 (R217), read access only. -/
def execGetTimer1 (s : State) : Host.Outcome State Fault Refusal := reply s s.dev s.env (.timer s.dev.t1)

/-- GETTIMER2 (R217), read access only. -/
def execGetTimer2 (s : State) : Host.Outcome State Fault Refusal := reply s s.dev s.env (.timer s.dev.t2)

/-- GETSR (R217), read access only. -/
def execGetSr (s : State) : Host.Outcome State Fault Refusal := reply s s.dev s.env (.shiftUnit s.dev.shift)

/-- SETPACB (R218). -/
def execSetPaCb (f : Option PortCallback) (s : State) : Host.Outcome State Fault Refusal :=
  reply s s.dev { s.env with portACb := f } .nothing

/-- SETPBCB (R219). -/
def execSetPbCb (f : Option PortCallback) (s : State) : Host.Outcome State Fault Refusal :=
  reply s s.dev { s.env with portBCb := f } .nothing

/-- SETUPDCB (R220). -/
def execSetUpdCb (f : Option SinkRef) (s : State) : Host.Outcome State Fault Refusal :=
  reply s s.dev { s.env with updateCb := f } .nothing

end Sys2Proof.Machine
end

