-- ==== Sys2Proof/Machine/Read.lean ====
section
/-! DEFINITION. The bus reads, one meaning per slot (40_register_read.md R110 to R125). -/

namespace Sys2Proof.Machine

/-- READ ORB (R110): the effective port-B value. -/
def execReadOrb (s : State) : Host.Outcome State Fault Refusal :=
  reply s s.dev (effB s.cfg s.dev s.env).2 (.byte (effB s.cfg s.dev s.env).1)

/-- READ ORA (R111): CA2 goes low in a handshake access mode, then the effective port-A value. -/
def execReadOra (s : State) : Host.Outcome State Fault Refusal :=
  let v := accessCa2 s.cfg false s.dev
  reply s v (effA v s.env).2 (.byte (effA v s.env).1)

/-- READ DDRB (R112). -/
def execReadDdrb (s : State) : Host.Outcome State Fault Refusal := replyByte s s.dev s.dev.ddrb

/-- READ DDRA (R113). -/
def execReadDdra (s : State) : Host.Outcome State Fault Refusal := replyByte s s.dev s.dev.ddra

/-- READ T1CL (R114): stops Timer 1, `PB7` high under PB7 control, clears the flag, the live counter's low byte. -/
def execReadT1cl (s : State) : Host.Outcome State Fault Refusal :=
  let v := setPb7 s.cfg 0x80 { s.dev with t1 := { s.dev.t1 with enabled := false } }
  replyByte s (setIfr s.cfg.t1Int false v) (loByte s.dev.t1.counter)

/-- READ T1CH (R115): the live counter's high byte. -/
def execReadT1ch (s : State) : Host.Outcome State Fault Refusal := replyByte s s.dev (hiByte s.dev.t1.counter)

/-- READ T1LL (R116). -/
def execReadT1ll (s : State) : Host.Outcome State Fault Refusal := replyByte s s.dev s.dev.t1ll

/-- READ T1LH (R117). -/
def execReadT1lh (s : State) : Host.Outcome State Fault Refusal := replyByte s s.dev s.dev.t1lh

/-- READ T2CL (R118): stops Timer 2, clears the flag, the live counter's low byte. -/
def execReadT2cl (s : State) : Host.Outcome State Fault Refusal :=
  let v := { s.dev with t2 := { s.dev.t2 with enabled := false } }
  replyByte s (setIfr s.cfg.t2Int false v) (loByte s.dev.t2.counter)

/-- READ T2CH (R119): the live counter's high byte. -/
def execReadT2ch (s : State) : Host.Outcome State Fault Refusal := replyByte s s.dev (hiByte s.dev.t2.counter)

/-- READ SR (R120): clears the flag, restarts the count, enables shifting, the stored byte. -/
def execReadSr (s : State) : Host.Outcome State Fault Refusal :=
  let v := setIfr s.cfg.srInt false s.dev
  replyByte s { v with shift := { v.shift with shifted := 0, enabled := true } } s.dev.sr

/-- READ ACR (R121). -/
def execReadAcr (s : State) : Host.Outcome State Fault Refusal := replyByte s s.dev s.dev.acr

/-- READ PCR (R122). -/
def execReadPcr (s : State) : Host.Outcome State Fault Refusal := replyByte s s.dev s.dev.pcr

/-- READ IFR (R123): `{IRQ(), IFR[6:0]}`. -/
def execReadIfr (s : State) : Host.Outcome State Fault Refusal := replyByte s s.dev (ifrByte s.dev)

/-- READ IER (R124): `0x80 | IER[6:0]`. -/
def execReadIer (s : State) : Host.Outcome State Fault Refusal := replyByte s s.dev (ierByte s.dev)

/-- READ ORA_NO_HANDSHAKE (R125): the effective port-A value, no line moves. -/
def execReadOraNoHandshake (s : State) : Host.Outcome State Fault Refusal :=
  reply s s.dev (effA s.dev s.env).2 (.byte (effA s.dev s.env).1)

end Sys2Proof.Machine
end

