-- ==== Sys2Proof/Machine/Write.lean ====
section
/-! DEFINITION. The bus writes, one meaning per slot (41_register_write.md R130 to R145). A write returns nothing
and calls no callback (R146). -/

namespace Sys2Proof.Machine

/-- WRITE ORB (R130): CB2 goes low in a handshake access mode, then the byte is stored. -/
def execWriteOrb (d : Byte) (s : State) : Host.Outcome State Fault Refusal :=
  finish s { accessCb2 s.cfg false s.dev with orb := d }

/-- WRITE ORA (R131): CA2 goes HIGH in a handshake access mode, then the byte is stored. -/
def execWriteOra (d : Byte) (s : State) : Host.Outcome State Fault Refusal :=
  finish s { accessCa2 s.cfg true s.dev with ora := d }

/-- WRITE DDRB (R132). -/
def execWriteDdrb (d : Byte) (s : State) : Host.Outcome State Fault Refusal := finish s { s.dev with ddrb := d }

/-- WRITE DDRA (R133). -/
def execWriteDdra (d : Byte) (s : State) : Host.Outcome State Fault Refusal := finish s { s.dev with ddra := d }

/-- WRITE T1CL (R134): the latch only. -/
def execWriteT1cl (d : Byte) (s : State) : Host.Outcome State Fault Refusal := finish s { s.dev with t1ll := d }

/-- WRITE T1CH (R135): stores the latch, loads, enables and re-arms Timer 1, `PB7` low under PB7 control, clears
the flag. -/
def execWriteT1ch (d : Byte) (s : State) : Host.Outcome State Fault Refusal :=
  let t := { counter := pairBytes d s.dev.t1ll, enabled := true, oneShot := false }
  finish s (setIfr s.cfg.t1Int false (setPb7 s.cfg 0x00 { s.dev with t1lh := d, t1 := t }))

/-- WRITE T1LL (R136): the latch only. -/
def execWriteT1ll (d : Byte) (s : State) : Host.Outcome State Fault Refusal := finish s { s.dev with t1ll := d }

/-- WRITE T1LH (R137): the latch only. -/
def execWriteT1lh (d : Byte) (s : State) : Host.Outcome State Fault Refusal := finish s { s.dev with t1lh := d }

/-- WRITE T2CL (R138): the stored byte; the live counter's low byte only under `T2CL_WRITE_TOUCHES_COUNTER`. -/
def execWriteT2cl (d : Byte) (s : State) : Host.Outcome State Fault Refusal :=
  let n := if s.cfg.t2clWriteTouchesCounter then pairBytes (hiByte s.dev.t2.counter) d else s.dev.t2.counter
  finish s { s.dev with t2cl := d, t2 := { s.dev.t2 with counter := n } }

/-- WRITE T2CH (R139): stores the byte, loads, enables and re-arms Timer 2, clears the flag. -/
def execWriteT2ch (d : Byte) (s : State) : Host.Outcome State Fault Refusal :=
  let t := { counter := pairBytes d s.dev.t2cl, enabled := true, oneShot := false }
  finish s (setIfr s.cfg.t2Int false { s.dev with t2ch := d, t2 := t })

/-- WRITE SR (R140): clears the flag, restarts the count, stores the byte, enables shifting. -/
def execWriteSr (d : Byte) (s : State) : Host.Outcome State Fault Refusal :=
  let v := setIfr s.cfg.srInt false s.dev
  finish s { v with sr := d, shift := { v.shift with shifted := 0, enabled := true } }

/-- WRITE ACR (R141): no side effect. -/
def execWriteAcr (d : Byte) (s : State) : Host.Outcome State Fault Refusal := finish s { s.dev with acr := d }

/-- WRITE PCR (R142): stores the byte and recomputes both lines from it. -/
def execWritePcr (d : Byte) (s : State) : Host.Outcome State Fault Refusal :=
  finish s { s.dev with
    pcr := d
    ca2State := pcrWriteLevel (s.cfg.ca2Mode d)
    cb2State := pcrWriteLevel (s.cfg.cb2Mode d) }

/-- WRITE IFR (R143): clears the flags whose data bits are 1; `d[7]` is ignored. -/
def execWriteIfr (d : Byte) (s : State) : Host.Outcome State Fault Refusal :=
  finish s (setIfr (d &&& 0x7F) false s.dev)

/-- WRITE IER (R144): `set_ier(d)`. -/
def execWriteIer (d : Byte) (s : State) : Host.Outcome State Fault Refusal := finish s (setIer d s.dev)

/-- WRITE ORA_NO_HANDSHAKE (R145): the store alone. -/
def execWriteOraNoHandshake (d : Byte) (s : State) : Host.Outcome State Fault Refusal :=
  finish s { s.dev with ora := d }

end Sys2Proof.Machine
end

