-- ==== Sys2Proof/Machine/Dispatch.lean ====
section
/-! DEFINITION. One arm per operation of spec/opcode_table.json. -/

namespace Sys2Proof.Machine

def exec (i : Instr) (s : State) : Host.Outcome State Fault Refusal :=
  match i with
  | .wOrb d => Sys2Proof.Machine.execWriteOrb d s
  | .wOra d => Sys2Proof.Machine.execWriteOra d s
  | .wDdrb d => Sys2Proof.Machine.execWriteDdrb d s
  | .wDdra d => Sys2Proof.Machine.execWriteDdra d s
  | .wT1cl d => Sys2Proof.Machine.execWriteT1cl d s
  | .wT1ch d => Sys2Proof.Machine.execWriteT1ch d s
  | .wT1ll d => Sys2Proof.Machine.execWriteT1ll d s
  | .wT1lh d => Sys2Proof.Machine.execWriteT1lh d s
  | .wT2cl d => Sys2Proof.Machine.execWriteT2cl d s
  | .wT2ch d => Sys2Proof.Machine.execWriteT2ch d s
  | .wSr d => Sys2Proof.Machine.execWriteSr d s
  | .wAcr d => Sys2Proof.Machine.execWriteAcr d s
  | .wPcr d => Sys2Proof.Machine.execWritePcr d s
  | .wIfr d => Sys2Proof.Machine.execWriteIfr d s
  | .wIer d => Sys2Proof.Machine.execWriteIer d s
  | .wOraNoHandshake d => Sys2Proof.Machine.execWriteOraNoHandshake d s
  | .rOrb => Sys2Proof.Machine.execReadOrb s
  | .rOra => Sys2Proof.Machine.execReadOra s
  | .rDdrb => Sys2Proof.Machine.execReadDdrb s
  | .rDdra => Sys2Proof.Machine.execReadDdra s
  | .rT1cl => Sys2Proof.Machine.execReadT1cl s
  | .rT1ch => Sys2Proof.Machine.execReadT1ch s
  | .rT1ll => Sys2Proof.Machine.execReadT1ll s
  | .rT1lh => Sys2Proof.Machine.execReadT1lh s
  | .rT2cl => Sys2Proof.Machine.execReadT2cl s
  | .rT2ch => Sys2Proof.Machine.execReadT2ch s
  | .rSr => Sys2Proof.Machine.execReadSr s
  | .rAcr => Sys2Proof.Machine.execReadAcr s
  | .rPcr => Sys2Proof.Machine.execReadPcr s
  | .rIfr => Sys2Proof.Machine.execReadIfr s
  | .rIer => Sys2Proof.Machine.execReadIer s
  | .rOraNoHandshake => Sys2Proof.Machine.execReadOraNoHandshake s
  | .execute => Sys2Proof.Machine.execExecute s
  | .reset => Sys2Proof.Machine.execReset s
  | .getIrq => Sys2Proof.Machine.execGetIrq s
  | .getRegState => Sys2Proof.Machine.execGetRegState s
  | .getTimer1 => Sys2Proof.Machine.execGetTimer1 s
  | .getTimer2 => Sys2Proof.Machine.execGetTimer2 s
  | .getSr => Sys2Proof.Machine.execGetSr s
  | .setPaCb f => Sys2Proof.Machine.execSetPaCb f s
  | .setPbCb f => Sys2Proof.Machine.execSetPbCb f s
  | .setUpdCb f => Sys2Proof.Machine.execSetUpdCb f s

end Sys2Proof.Machine
end

