-- ==== Sys2Proof/Machine/Fetch.lean ====
section
/-! DEFINITION. Taking the next operation of the sequence that the environment has issued (00_scope.md R11,
10_state.md R48: the device has no program counter; log 1). -/

namespace Sys2Proof.Machine

/-- What the next operation is. -/
inductive Fetched
  /-- No operation has been issued. -/
  | idle
  /-- The operation, and the state in which it is no longer pending. -/
  | issue (i : Instr) (s : State)
  /-- The issued word or its operand is no operation. -/
  | rejected (r : Refusal)
deriving DecidableEq, Repr

/-- The refusal of a decode error, by name. -/
def refusalOf : DecodeError → Refusal
  | .reservedOpcode op => .reservedOpcode op
  | .operandMismatch => .operandMismatch
  | .notAFunction => .notAFunction

/-- The oldest pending operation, decoded under the state's register map. -/
def fetch (s : State) : Fetched :=
  match s.pending with
  | [] => .idle
  | o :: rest =>
    match decode s.cfg.regmap o.word o.beside with
    | .instr i => .issue i { s with pending := rest }
    | .rejected e => .rejected (refusalOf e)

/-- The trace word of `nbits` bits, the bits above them 0, issued with nothing beside it. -/
def issueOfTableWord (nbits w : Nat) : Issue := ⟨BitVec.ofNat 16 (w % 2 ^ nbits), .absent⟩

end Sys2Proof.Machine
end

