-- ==== Sys2Proof/Machine/Step.lean ====
section
/-! DEFINITION. One step: the next issued operation runs to its end (00_scope.md R11); with none issued the device
does not change (R11, 60_exceptions.md R248; log 2). -/

namespace Sys2Proof.Machine

def step (s : State) : Host.Outcome State Fault Refusal :=
  match fetch s with
  | .idle => .next s
  | .issue i s' => exec i s'
  | .rejected r => .refused r

/-- `s` with the operation of a table row's word issued before every other. -/
def State.withFetchWord (s : State) (nbits w : Nat) : State :=
  { s with pending := issueOfTableWord nbits w :: s.pending }

end Sys2Proof.Machine
end

