-- ==== Sys2Proof/Machine/Pseudo.lean ====
section
/-! DEFINITION. The pseudo-operations of 30_encoding.md R95, by their expansions, and the run of a finite sequence of
operations (00_scope.md R11). -/

namespace Sys2Proof

/-- `X*n`. -/
def pseudoX (n : Nat) : List Instr := List.replicate n .execute

/-- `T1LOAD <hhll>`: the low byte first (70_reset_and_hazards.md R270). -/
def pseudoT1Load (v : Word) : List Instr := [.wT1cl (loByte v), .wT1ch (hiByte v)]

/-- `T2LOAD <hhll>`: the low byte first (R271). -/
def pseudoT2Load (v : Word) : List Instr := [.wT2cl (loByte v), .wT2ch (hiByte v)]

/-- `IEN <m>`: `W IER, 0x80 | <m>`. -/
def pseudoIen (m : FlagSet) : List Instr := [.wIer (withBit7 true m)]

/-- `IDIS <m>`: `W IER, <m> & 0x7F`. -/
def pseudoIdis (m : Byte) : List Instr := [.wIer (m &&& 0x7F)]

/-- `IACK <m>`: `W IFR, <m>`. -/
def pseudoIack (m : Byte) : List Instr := [.wIfr m]

namespace Machine

/-- The operations of the list, each run to its end before the next. -/
def execAll : List Instr → State → Host.Outcome State Fault Refusal
  | [], s => .next s
  | i :: is, s =>
    match exec i s with
    | .next t => execAll is t
    | .fault f => .fault f
    | .refused r => .refused r

end Machine

end Sys2Proof
end

