-- ==== Sys2Proof/Safety.lean ====
section
/-! DEFINITION. What counts as a legal state and a safe run (10_state.md R43; 60_exceptions.md R230). -/

namespace Sys2Proof.Machine

/-- The invariants of R43 that are not already carried by a type: (f) `PB7` is 0x00 or 0x80; (g) `sr.shifted` is at
most 8, and below 8 while the unit is enabled; (h) CA1 and CB1 are 0; (i) the input registers and their latches are
0x00; (j) the four handshake-line flags are 0. The last is `clk`'s bound where `CLK_WIDTH` is given (R40). -/
structure Device.Legal (c : Config) (v : Device) : Prop where
  pb7Level      : v.pb7 = 0x00 ∨ v.pb7 = 0x80
  shiftedMax    : v.shift.shifted ≤ 8
  shiftedActive : v.shift.enabled = true → v.shift.shifted < 8
  ca1Low        : v.ca1State = false
  cb1Low        : v.cb1State = false
  iraInert      : v.ira = 0x00
  irbInert      : v.irb = 0x00
  iraLatchInert : v.iraLatch = 0x00
  irbLatchInert : v.irbLatch = 0x00
  noLineFlag    : v.ifr &&& low7 c.lineInts = 0
  clkFits       : ∀ w, c.clkWidth = some w → v.clk < 2 ^ w

/-- A legal state: a well-formed setting of the parameters and a legal device. -/
def State.Legal (s : State) : Prop := s.cfg.wf = true ∧ s.dev.Legal s.cfg

/-- A line's level is the one its mode fixes: low in the fixed-output-low mode, high in the input modes and in the
fixed-output-high mode; the handshake and pulse modes fix none (44_port_io_handshake.md R201). -/
def levelFits (m : LineMode) (level : Bool) : Prop :=
  match m with
  | .handshakeOutput | .pulseOutput => True
  | .fixedLow => level = false
  | .inputNegEdge | .independentNegEdge | .inputPosEdge | .independentPosEdge | .fixedHigh => level = true

/-- Both lines fit their modes. -/
def State.LinesFit (s : State) : Prop :=
  levelFits (s.cfg.ca2Mode s.dev.pcr) s.dev.ca2State ∧ levelFits (s.cfg.cb2Mode s.dev.pcr) s.dev.cb2State

/-- No fixed or input mode is in `HS_ACCESS_MODES`: so it is at the default, and at the alternative {0b100} of R196. -/
def State.AccessSparesFixed (s : State) : Prop :=
  ∀ m ∈ s.cfg.hsAccessModes, m = .handshakeOutput ∨ m = .pulseOutput

/-- Every operation issued and not yet run is one the decoder accepts. -/
def State.TraceOk (s : State) : Prop := ∀ o ∈ s.pending, ∃ i, decode s.cfg.regmap o.word o.beside = .instr i

end Sys2Proof.Machine
end

