-- ==== Sys2Proof/Certificates/Slice0/Obligations.lean ====
section
/-! DEFINITION. The statements for the provers. Bits and codes are written as the spec's rules write them; a statement
that names one has as premise that the layout parameters are at the spec's defaults (00_scope.md R7), and holds for
every setting of the others. -/

namespace Sys2Proof.Machine

/-! ### Words of the statements -/

/-- The layouts of IFR, IER, ACR and PCR are those of 30_encoding.md R86 to R90. -/
def State.DefaultBits (s : State) : Prop :=
  s.cfg.ifrBits = FlagBits.default ∧ s.cfg.acrLayout = AcrLayout.default ∧ s.cfg.pcrLayout = PcrLayout.default

/-- `HS_ACCESS_MODES` is at its default (44_port_io_handshake.md R196). -/
def State.DefaultAccess (s : State) : Prop := s.cfg.hsAccessModes = [.handshakeOutput, .pulseOutput]

/-- `SR_MODE4_CLASS` is at its default (43_shift_register.md R170). -/
def State.DefaultMode4 (s : State) : Prop := s.cfg.srMode4Class = .t2

/-- The code is one of the two in which a data-register access moves the line: 0b100, 0b101. -/
def movesCode (f : BitVec 3) : Bool := f = 4 ∨ f = 5

/-- `SR_MODE` = `ACR[4:2]`. -/
def State.srCode (s : State) : BitVec 3 := s.dev.acr.extractLsb' 2 3

/-- `CA2_MODE` = `PCR[3:1]`. -/
def State.ca2Code (s : State) : BitVec 3 := s.dev.pcr.extractLsb' 1 3

/-- `CB2_MODE` = `PCR[7:5]`. -/
def State.cb2Code (s : State) : BitVec 3 := s.dev.pcr.extractLsb' 5 3

/-- The shift clock is internal: class T2 (0b001, 0b100, 0b101) or PHI2 (0b010, 0b110). -/
def State.internalClock (s : State) : Bool := s.srCode ∈ [1, 4, 5, 2, 6]

/-- The next EXECUTE toggles `cb1_state_sr`: class PHI2, or class T2 with `sr.counter` = 0 now (R174). -/
def State.shiftTick (s : State) : Bool :=
  s.srCode ∈ [2, 6] ∨ (s.srCode ∈ [1, 4, 5] ∧ s.dev.shift.counter = 0x00)

/-- The next EXECUTE moves a bit (R177): a tick, the unit enabled, and the new level one that `SR_SHIFT_ON` names. -/
def State.shiftMoves (s : State) : Bool :=
  s.shiftTick && s.dev.shift.enabled &&
    (match s.cfg.srShiftOn with
      | .every => true
      | .rising => !s.dev.cb1StateSr
      | .falling => s.dev.cb1StateSr)

/-- Timer 1's next EXECUTE wraps in a way that sets its flag (60_exceptions.md R236, bit 6). -/
def State.t1Fires (s : State) : Bool :=
  s.dev.t1.enabled && s.dev.t1.counter = 0x0000 && (s.dev.acr.getLsbD 6 || !s.dev.t1.oneShot)

/-- Timer 2's next EXECUTE is its first wrap after a load, in the timed one-shot mode (R236, bit 5). -/
def State.t2Fires (s : State) : Bool :=
  s.dev.t2.enabled && !s.dev.acr.getLsbD 5 && s.dev.t2.counter = 0x0000 && !s.dev.t2.oneShot

/-- The operation is an EXECUTE that sets flag `k` (R236, column "set by"). -/
def setsFlag (s : State) (k : Nat) : Instr → Bool
  | .execute => (k = 6 && s.t1Fires) || (k = 5 && s.t2Fires) || (k = 2 && s.shiftMoves && s.dev.shift.shifted = 7)
  | _ => false

/-- The operation clears flag `k` (R236, column "cleared by"). -/
def clearsFlag (k : Nat) : Instr → Bool
  | .wIfr d => d.getLsbD k
  | .rT1cl | .wT1ch _ => k = 6
  | .rT2cl | .wT2ch _ => k = 5
  | .rSr | .wSr _ => k = 2
  | .reset => true
  | _ => false

/-- The two halves of the merge of R190. -/
def merged (output direction input : Byte) : Byte := (output &&& direction) ||| (input &&& ~~~ direction)

/-- `answer` is one that the callback can give at a direction mask and a stored output byte: the law's own where it is a
law; any byte where nothing is stated about it (R41; the form of a law is the model's, log 5). -/
def answers (f : PortCallback) (direction output answer : Byte) : Prop :=
  ∀ rows other, f = .law rows other → f.wf = true →
    (∀ b, ((direction, output), b) ∈ rows → answer = b) ∧
    ((∀ b, ((direction, output), b) ∉ rows) → answer = other)

/-- One evaluation of port A gives `input` and leaves the environment as `e` (R191): without a callback 0x00 and no call;
a registered one is called once, with `DDRA` first and `ORA` second. The draw count and the record of the call are the
model's (logs 5, 7). -/
def State.PortAEvaluates (s : State) (input : Byte) (e : Env) : Prop :=
  match s.env.portACb with
  | none => input = 0x00 ∧ e = s.env
  | some f =>
    answers f s.dev.ddra s.dev.ora input ∧
    e = { s.env with drawsA := s.env.drawsA + 1, calls := .portA s.dev.ddra s.dev.ora input :: s.env.calls }

/-- One evaluation of port B, likewise (R193): the callback is called with `DDRB` first and `ORB` second (logs 5, 7). -/
def State.PortBEvaluates (s : State) (input : Byte) (e : Env) : Prop :=
  match s.env.portBCb with
  | none => input = 0x00 ∧ e = s.env
  | some f =>
    answers f s.dev.ddrb s.dev.orb input ∧
    e = { s.env with drawsB := s.env.drawsB + 1, calls := .portB s.dev.ddrb s.dev.orb input :: s.env.calls }

/-- The effective port-B value (R194) of an input byte, with `PB7` at `pb7`. -/
def State.portBView (s : State) (input pb7 : Byte) : Byte :=
  if s.dev.acr.getLsbD 7 then (merged s.dev.orb s.dev.ddrb input &&& 0x7F) ||| pb7
  else merged s.dev.orb s.dev.ddrb input

/-- `clk` after `k` EXECUTEs from `n`. The wrap at `CLK_WIDTH` is the model's choice (log 18). -/
def clkAfter (c : Config) (n k : Nat) : Nat :=
  match c.clkWidth with
  | none => n + k
  | some w => if k = 0 then n else (n + k) % 2 ^ w

end Sys2Proof.Machine

open Sys2Proof Sys2Proof.Machine

/-! ### Bus reads -/

/-- R112, R113, R115 to R117, R119, R121, R122: the reads without side effect. -/
def Obligations.PlainReadsReturnTheByteAndChangeNothing : Prop :=
  ∀ s : State,
    exec .rDdrb s = .next { s with result := .byte s.dev.ddrb } ∧
    exec .rDdra s = .next { s with result := .byte s.dev.ddra } ∧
    exec .rT1ch s = .next { s with result := .byte (s.dev.t1.counter.extractLsb' 8 8) } ∧
    exec .rT1ll s = .next { s with result := .byte s.dev.t1ll } ∧
    exec .rT1lh s = .next { s with result := .byte s.dev.t1lh } ∧
    exec .rT2ch s = .next { s with result := .byte (s.dev.t2.counter.extractLsb' 8 8) } ∧
    exec .rAcr s = .next { s with result := .byte s.dev.acr } ∧
    exec .rPcr s = .next { s with result := .byte s.dev.pcr }

/-- R114. -/
def Obligations.ReadT1clStopsTimer1AndClearsItsFlag : Prop :=
  ∀ s : State, s.DefaultBits →
    exec .rT1cl s = .next { s with
      dev := { s.dev with
        t1 := { s.dev.t1 with enabled := false }
        pb7 := if s.dev.acr.getLsbD 7 then 0x80 else s.dev.pb7
        ifr := s.dev.ifr &&& 0x3F }
      result := .byte (s.dev.t1.counter.extractLsb' 0 8) }

/-- R118. -/
def Obligations.ReadT2clStopsTimer2AndClearsItsFlag : Prop :=
  ∀ s : State, s.DefaultBits →
    exec .rT2cl s = .next { s with
      dev := { s.dev with
        t2 := { s.dev.t2 with enabled := false }
        ifr := s.dev.ifr &&& 0x5F }
      result := .byte (s.dev.t2.counter.extractLsb' 0 8) }

/-- R120. -/
def Obligations.ReadSrRestartsShiftingAndKeepsTheByte : Prop :=
  ∀ s : State, s.DefaultBits →
    exec .rSr s = .next { s with
      dev := { s.dev with
        ifr := s.dev.ifr &&& 0x7B
        shift := { s.dev.shift with shifted := 0, enabled := true } }
      result := .byte s.dev.sr }

/-- R124. -/
def Obligations.ReadIerForcesBit7 : Prop :=
  ∀ s : State, exec .rIer s = .next { s with result := .byte (0x80 ||| s.dev.ier.setWidth 8) }

/-- R234, with R123 and R212: only zero or nonzero is said of GETIRQ (93 U13). -/
def Obligations.CompositeIsSetIffAnEnabledFlagIsSet : Prop :=
  ∀ s : State, ∃ b g : Byte,
    exec .rIfr s = .next { s with result := .byte b } ∧
    exec .getIrq s = .next { s with result := .byte g } ∧
    b.setWidth 7 = s.dev.ifr ∧
    (b.getLsbD 7 = true ↔ ∃ k, k < 7 ∧ s.dev.ifr.getLsbD k = true ∧ s.dev.ier.getLsbD k = true) ∧
    (g ≠ 0 ↔ b.getLsbD 7 = true)

/-- R110, R193, R194 (92 D13): the effective port-B value of one evaluation of port B, with Timer 1's drive of bit 7. The
form of a callback, the draw count and the record of the call are the model's (logs 5, 7). -/
def Obligations.ReadOrbReturnsTheEffectiveValue : Prop :=
  ∀ s : State, s.DefaultBits → ∃ (input : Byte) (e : Env), s.PortBEvaluates input e ∧
    exec .rOrb s = .next { s with env := e, result := .byte (s.portBView input s.dev.pb7) }

/-- R125, R192: no callback gives input 0; a registered one is called once, with the mask first and the stored byte
second, and its answer is the law's where it has one. The form of a law and the draw count are the model's (log 5), and so
is the record `calls` (log 7). -/
def Obligations.ReadOraNoHandshakeCallsPortAOnce : Prop :=
  ∀ s : State,
    (s.env.portACb = none →
      exec .rOraNoHandshake s = .next { s with result := .byte (s.dev.ora &&& s.dev.ddra) }) ∧
    (∀ f, s.env.portACb = some f → ∃ answer : Byte,
      exec .rOraNoHandshake s = .next { s with
        env := { s.env with
          drawsA := s.env.drawsA + 1
          calls := .portA s.dev.ddra s.dev.ora answer :: s.env.calls }
        result := .byte ((s.dev.ora &&& s.dev.ddra) ||| (answer &&& ~~~ s.dev.ddra)) } ∧
      (∀ rows other, f = .law rows other → f.wf = true →
        (∀ b, ((s.dev.ddra, s.dev.ora), b) ∈ rows → answer = b) ∧
        ((∀ b, ((s.dev.ddra, s.dev.ora), b) ∉ rows) → answer = other)))

/-- R111 (92 D12), R191, R192: the line, and the effective port-A value of one evaluation of port A. The form of a
callback, the draw count and the record of the call are the model's (logs 5, 7). -/
def Obligations.ReadOraLowersCa2InTheAccessModes : Prop :=
  ∀ s : State, s.DefaultBits → s.DefaultAccess → ∃ (input : Byte) (e : Env), s.PortAEvaluates input e ∧
    exec .rOra s = .next { s with
      dev := { s.dev with ca2State := if movesCode s.ca2Code then false else s.dev.ca2State }
      env := e
      result := .byte (merged s.dev.ora s.dev.ddra input) }

/-! ### Bus writes -/

/-- R132 to R134, R136, R137, R141, R145: the writes that only store. -/
def Obligations.PlainWritesStoreTheByteAndNothingElse : Prop :=
  ∀ (d : Byte) (s : State),
    exec (.wDdrb d) s = .next { s with dev := { s.dev with ddrb := d }, result := .nothing } ∧
    exec (.wDdra d) s = .next { s with dev := { s.dev with ddra := d }, result := .nothing } ∧
    exec (.wT1cl d) s = .next { s with dev := { s.dev with t1ll := d }, result := .nothing } ∧
    exec (.wT1ll d) s = .next { s with dev := { s.dev with t1ll := d }, result := .nothing } ∧
    exec (.wT1lh d) s = .next { s with dev := { s.dev with t1lh := d }, result := .nothing } ∧
    exec (.wAcr d) s = .next { s with dev := { s.dev with acr := d }, result := .nothing } ∧
    exec (.wOraNoHandshake d) s = .next { s with dev := { s.dev with ora := d }, result := .nothing }

/-- R135. -/
def Obligations.WriteT1chLoadsAndStartsTimer1 : Prop :=
  ∀ (d : Byte) (s : State), s.DefaultBits →
    exec (.wT1ch d) s = .next { s with
      dev := { s.dev with
        t1lh := d
        t1 := { counter := d ++ s.dev.t1ll, enabled := true, oneShot := false }
        pb7 := if s.dev.acr.getLsbD 7 then 0x00 else s.dev.pb7
        ifr := s.dev.ifr &&& 0x3F }
      result := .nothing }

/-- R138 (92 D11), at either setting of `T2CL_WRITE_TOUCHES_COUNTER`. -/
def Obligations.WriteT2clStoresTheByte : Prop :=
  ∀ (d : Byte) (s : State),
    exec (.wT2cl d) s = .next { s with
      dev := { s.dev with
        t2cl := d
        t2 := if s.cfg.t2clWriteTouchesCounter
          then { s.dev.t2 with counter := (s.dev.t2.counter.extractLsb' 8 8 : Byte) ++ d } else s.dev.t2 }
      result := .nothing }

/-- R139. -/
def Obligations.WriteT2chLoadsAndStartsTimer2 : Prop :=
  ∀ (d : Byte) (s : State), s.DefaultBits →
    exec (.wT2ch d) s = .next { s with
      dev := { s.dev with
        t2ch := d
        t2 := { counter := d ++ s.dev.t2cl, enabled := true, oneShot := false }
        ifr := s.dev.ifr &&& 0x5F }
      result := .nothing }

/-- R140. -/
def Obligations.WriteSrStoresTheByteAndRestartsShifting : Prop :=
  ∀ (d : Byte) (s : State), s.DefaultBits →
    exec (.wSr d) s = .next { s with
      dev := { s.dev with
        ifr := s.dev.ifr &&& 0x7B
        sr := d
        shift := { s.dev.shift with shifted := 0, enabled := true } }
      result := .nothing }

/-- R142. -/
def Obligations.WritePcrRecomputesBothLines : Prop :=
  ∀ (d : Byte) (s : State), s.DefaultBits →
    exec (.wPcr d) s = .next { s with
      dev := { s.dev with
        pcr := d
        ca2State := if d.extractLsb' 1 3 = 0b110 then false else true
        cb2State := if d.extractLsb' 5 3 = 0b110 then false else true }
      result := .nothing }

/-- R143 (92 D33). -/
def Obligations.WriteIfrClearsTheNamedFlags : Prop :=
  ∀ (d : Byte) (s : State),
    exec (.wIfr d) s = .next { s with
      dev := { s.dev with ifr := s.dev.ifr &&& ~~~ (d.setWidth 7) }
      result := .nothing }

/-- R144. -/
def Obligations.WriteIerSetsOrClearsByBit7 : Prop :=
  ∀ (d : Byte) (s : State),
    exec (.wIer d) s = .next { s with
      dev := { s.dev with
        ier := if d.getLsbD 7 then s.dev.ier ||| d.setWidth 7 else s.dev.ier &&& ~~~ (d.setWidth 7) }
      result := .nothing }

/-- R130, R131 (92 D12): a write of ORB lowers CB2, a write of ORA raises CA2. -/
def Obligations.WritesOfTheOutputRegistersMoveTheirLines : Prop :=
  ∀ (d : Byte) (s : State), s.DefaultBits → s.DefaultAccess →
    exec (.wOrb d) s = .next { s with
      dev := { s.dev with orb := d, cb2State := if movesCode s.cb2Code then false else s.dev.cb2State }
      result := .nothing } ∧
    exec (.wOra d) s = .next { s with
      dev := { s.dev with ora := d, ca2State := if movesCode s.ca2Code then true else s.dev.ca2State }
      result := .nothing }

/-! ### EXECUTE -/

/-- R150 (92 D17): the five parts in their order. -/
def Obligations.ExecuteRunsItsPartsInOrder : Prop :=
  ∀ s : State,
    let v1 := t1Step s.cfg s.dev
    let v2 := t2Step s.cfg v1
    let v3 := srClock s.cfg v2
    let v4 := srSubCounter v3
    let v5 := pulseRestore s.cfg v4
    exec .execute s = .next { s with
      dev := { v5 with clk := clkSucc s.cfg v5.clk }
      env := observe s.cfg v4 s.env
      result := .nothing }

/-- R151, R153, R154: what one EXECUTE does to Timer 1, to `PB7` and to the Timer 1 flag. -/
def Obligations.ExecuteAdvancesTimer1 : Prop :=
  ∀ s : State, s.DefaultBits → ∃ t, exec .execute s = .next t ∧
    (s.dev.t1.enabled = false →
      t.dev.t1 = s.dev.t1 ∧ t.dev.pb7 = s.dev.pb7 ∧ t.dev.ifr.getLsbD 6 = s.dev.ifr.getLsbD 6) ∧
    (s.dev.t1.enabled = true → s.dev.t1.counter ≠ 0x0000 →
      t.dev.t1 = { s.dev.t1 with counter := s.dev.t1.counter - 1 } ∧
      t.dev.pb7 = s.dev.pb7 ∧ t.dev.ifr.getLsbD 6 = s.dev.ifr.getLsbD 6) ∧
    (s.dev.t1.enabled = true → s.dev.t1.counter = 0x0000 → s.dev.acr.getLsbD 6 = true →
      t.dev.t1 = { s.dev.t1 with counter := s.dev.t1lh ++ s.dev.t1ll } ∧
      t.dev.pb7 = (if s.dev.acr.getLsbD 7 then s.dev.pb7 ^^^ 0x80 else s.dev.pb7) ∧
      t.dev.ifr.getLsbD 6 = true) ∧
    (s.dev.t1.enabled = true → s.dev.t1.counter = 0x0000 → s.dev.acr.getLsbD 6 = false → s.dev.t1.oneShot = false →
      t.dev.t1 = { counter := 0xFFFF, enabled := true, oneShot := true } ∧
      t.dev.pb7 = (if s.dev.acr.getLsbD 7 then 0x80 else s.dev.pb7) ∧
      t.dev.ifr.getLsbD 6 = true) ∧
    (s.dev.t1.enabled = true → s.dev.t1.counter = 0x0000 → s.dev.acr.getLsbD 6 = false → s.dev.t1.oneShot = true →
      t.dev.t1 = { counter := 0xFFFF, enabled := true, oneShot := true } ∧
      t.dev.pb7 = s.dev.pb7 ∧ t.dev.ifr.getLsbD 6 = s.dev.ifr.getLsbD 6)

/-- R156: what one EXECUTE does to Timer 2 and to its flag in the timed one-shot mode. -/
def Obligations.ExecuteAdvancesTimer2 : Prop :=
  ∀ s : State, s.DefaultBits → s.dev.acr.getLsbD 5 = false → ∃ t, exec .execute s = .next t ∧
    (s.dev.t2.enabled = false → t.dev.t2 = s.dev.t2 ∧ t.dev.ifr.getLsbD 5 = s.dev.ifr.getLsbD 5) ∧
    (s.dev.t2.enabled = true → s.dev.t2.counter ≠ 0x0000 →
      t.dev.t2 = { s.dev.t2 with counter := s.dev.t2.counter - 1 } ∧
      t.dev.ifr.getLsbD 5 = s.dev.ifr.getLsbD 5) ∧
    (s.dev.t2.enabled = true → s.dev.t2.counter = 0x0000 → s.dev.t2.oneShot = false →
      t.dev.t2 = { counter := 0xFFFF, enabled := true, oneShot := true } ∧ t.dev.ifr.getLsbD 5 = true) ∧
    (s.dev.t2.enabled = true → s.dev.t2.counter = 0x0000 → s.dev.t2.oneShot = true →
      t.dev.t2 = { counter := 0xFFFF, enabled := true, oneShot := true } ∧
      t.dev.ifr.getLsbD 5 = s.dev.ifr.getLsbD 5)

/-- R157 (92 D20): in pulse-counting mode EXECUTE leaves Timer 2 and its flag alone, in every state. -/
def Obligations.PulseCountingHoldsTimer2 : Prop :=
  ∀ s : State, s.DefaultBits → s.dev.acr.getLsbD 5 = true → ∃ t, exec .execute s = .next t ∧
    t.dev.t2 = s.dev.t2 ∧ t.dev.ifr.getLsbD 5 = s.dev.ifr.getLsbD 5

/-- R181: the sub-counter, in every mode, enabled or not; RESET is the only other operation that writes it. -/
def Obligations.SubCounterFreeRunsFromT2cl : Prop :=
  ∀ (i : Instr) (s t : State), exec i s = .next t →
    t.dev.shift.counter =
      match i with
      | .execute => if s.dev.shift.counter = 0x00 then s.dev.t2cl else s.dev.shift.counter - 1
      | .reset => 0x00
      | _ => s.dev.shift.counter

/-- R174 (92 D17): the toggle of `cb1_state_sr`, whether or not the unit is enabled. -/
def Obligations.ShiftClockTogglesCb1 : Prop :=
  ∀ s : State, s.DefaultBits → s.DefaultMode4 → ∃ t, exec .execute s = .next t ∧
    t.dev.cb1StateSr = if s.shiftTick then !s.dev.cb1StateSr else s.dev.cb1StateSr

/-- R177, R178, R179 (92 D14 to D16): one bit moved and counted, at any setting of `SR_SHIFT_ON`; the eighth sets the
flag and stops the unit. -/
def Obligations.ShiftUpdateMovesAndCountsOneBit : Prop :=
  ∀ s : State, s.DefaultBits → s.DefaultMode4 → ∃ t, exec .execute s = .next t ∧
    (s.shiftMoves = false →
      t.dev.sr = s.dev.sr ∧ t.dev.cb2StateSr = s.dev.cb2StateSr ∧ t.dev.shift.enabled = s.dev.shift.enabled ∧
      t.dev.shift.shifted = s.dev.shift.shifted ∧ t.dev.ifr.getLsbD 2 = s.dev.ifr.getLsbD 2) ∧
    (s.shiftMoves = true →
      t.dev.sr = (if s.dev.acr.getLsbD 4 then s.dev.sr.rotateLeft 1
        else (s.dev.sr <<< 1) ||| (if s.dev.cb2State then 1 else 0)) ∧
      t.dev.cb2StateSr = (if s.dev.acr.getLsbD 4 then s.dev.sr.getLsbD 7 else s.dev.cb2StateSr) ∧
      t.dev.shift.shifted = s.dev.shift.shifted + 1 ∧
      t.dev.shift.enabled = decide (s.dev.shift.shifted ≠ 7) ∧
      t.dev.ifr.getLsbD 2 = (s.dev.ifr.getLsbD 2 || decide (s.dev.shift.shifted = 7)))

/-- R200. -/
def Obligations.ExecuteRestoresPulseLines : Prop :=
  ∀ s : State, s.DefaultBits → ∃ t, exec .execute s = .next t ∧
    t.dev.ca2State = (if s.ca2Code = 0b101 then true else s.dev.ca2State) ∧
    t.dev.cb2State = (if s.cb2Code = 0b101 then true else s.dev.cb2State)

/-- R202, R203, R204 (92 D13, D19, D34): the tuple after this cycle's timer and shift changes and before the pulse
restore, given after one evaluation of port B (R193). The sink and the record of the calls are the model's (logs 5, 7). -/
def Obligations.ObserverGetsTheTupleOfThisCycle : Prop :=
  ∀ s : State, s.DefaultBits → s.DefaultMode4 → ∃ t, exec .execute s = .next t ∧
    (s.env.updateCb = none → t.env = s.env) ∧
    (∀ r, s.env.updateCb = some r → ∃ (input : Byte) (e : Env), s.PortBEvaluates input e ∧
      t.env = { e with
        calls := .observed r
          { ora := s.dev.ora
            portB := s.portBView input t.dev.pb7
            ca1 := s.dev.ca1State
            ca2 := s.dev.ca2State
            cb1 := if s.internalClock then t.dev.cb1StateSr else s.dev.cb1State
            cb2 := if s.dev.acr.getLsbD 4 then t.dev.cb2StateSr else s.dev.cb2State } :: e.calls })

/-- R46, R150: the frame of EXECUTE; it clears no flag and sets none but those of the timers and the shift register. -/
def Obligations.ExecuteLeavesTheRestAlone : Prop :=
  ∀ s : State, s.DefaultBits → ∃ t, exec .execute s = .next t ∧
    t.dev = { s.dev with
      t1 := t.dev.t1, t2 := t.dev.t2, pb7 := t.dev.pb7, ifr := t.dev.ifr, sr := t.dev.sr, shift := t.dev.shift
      cb1StateSr := t.dev.cb1StateSr, cb2StateSr := t.dev.cb2StateSr
      ca2State := t.dev.ca2State, cb2State := t.dev.cb2State, clk := t.dev.clk } ∧
    (∀ k, k ≠ 6 → k ≠ 5 → k ≠ 2 → t.dev.ifr.getLsbD k = s.dev.ifr.getLsbD k) ∧
    (∀ k, s.dev.ifr.getLsbD k = true → t.dev.ifr.getLsbD k = true) ∧
    t.env.portACb = s.env.portACb ∧ t.env.portBCb = s.env.portBCb ∧ t.env.updateCb = s.env.updateCb ∧
    t.env.drawsA = s.env.drawsA ∧ t.result = .nothing

/-! ### Reset, queries, registrations -/

/-- R210 with R47 (the values of D21 among them, log 9; the callbacks kept, D22, log 8). -/
def Obligations.ResetGivesTheTabulatedDevice : Prop :=
  ∀ s : State, exec .reset s = .next { s with
    dev :=
      { ora := 0x00, orb := 0x00, ddra := 0x00, ddrb := 0x00, t1ll := 0x00, t1lh := 0x00, t2cl := 0x00, t2ch := 0x00
        sr := 0x00, acr := 0x00, pcr := 0x00, ifr := 0, ier := 0, pb7 := 0x80
        ira := 0x00, irb := 0x00, iraLatch := 0x00, irbLatch := 0x00
        t1 := { counter := 0x0000, enabled := false, oneShot := false }
        t2 := { counter := 0x0000, enabled := false, oneShot := false }
        shift := { enabled := false, shifted := 0, counter := 0x00 }
        ca1State := false, ca2State := true, cb1State := false, cb1StateSr := false
        cb2State := true, cb2StateSr := false, clk := 0 }
    result := .nothing }

/-- R217 (92 D32), R218 to R220 (92 D27, D34). -/
def Obligations.QueriesOnlyReadAndRegistrationsOnlyBind : Prop :=
  ∀ (f : Option PortCallback) (r : Option SinkRef) (s : State),
    exec .getTimer1 s = .next { s with result := .timer s.dev.t1 } ∧
    exec .getTimer2 s = .next { s with result := .timer s.dev.t2 } ∧
    exec .getSr s = .next { s with result := .shiftUnit s.dev.shift } ∧
    exec (.setPaCb f) s = .next { s with env := { s.env with portACb := f }, result := .nothing } ∧
    exec (.setPbCb f) s = .next { s with env := { s.env with portBCb := f }, result := .nothing } ∧
    exec (.setUpdCb r) s = .next { s with env := { s.env with updateCb := r }, result := .nothing }

/-- R216 (92 D35): each of the 16 bytes is what a READ of that address would return, and the device does not change;
that each port is evaluated once is the model's choice (log 13). With a callback about which nothing is stated the two runs
agree because they take its answer at the same draw (log 5, DESIGN CHOICE, unsafe for comparing two runs). -/
def Obligations.SnapshotAgreesWithEveryRead : Prop :=
  ∀ s : State, ∃ (v : List Byte) (e : Env),
    exec .getRegState s = .next { s with env := e, result := .registers v } ∧ v.length = 16 ∧
    e.portACb = s.env.portACb ∧ e.portBCb = s.env.portBCb ∧ e.updateCb = s.env.updateCb ∧
    ∀ a : BitVec 4, ∃ t b, exec (readInstr (s.cfg.regmap.slotAt a)) s = .next t ∧ t.result = .byte b ∧
      v[a.toNat]? = some b

/-! ### The whole machine -/

/-- R230: every operation succeeds on every state and every operand. -/
def Obligations.EveryOperationCompletes : Prop := ∀ (i : Instr) (s : State), ∃ t, exec i s = .next t

/-- R42: the parameters and the sequence of operations are no state an operation writes. -/
def Obligations.NoOperationTouchesParametersOrSequence : Prop :=
  ∀ (i : Instr) (s t : State), exec i s = .next t → t.cfg = s.cfg ∧ t.pending = s.pending

/-- R197: the complete list of the events that write `ca2_state`, at any setting of `HS_ACCESS_MODES`. -/
def Obligations.Ca2IsWrittenByTheListedEventsOnly : Prop :=
  ∀ (i : Instr) (s t : State), s.DefaultBits → exec i s = .next t →
    t.dev.ca2State =
      match i with
      | .rOra => if s.cfg.ca2Mode s.dev.pcr ∈ s.cfg.hsAccessModes then false else s.dev.ca2State
      | .wOra _ => if s.cfg.ca2Mode s.dev.pcr ∈ s.cfg.hsAccessModes then true else s.dev.ca2State
      | .wPcr d => if d.extractLsb' 1 3 = 0b110 then false else true
      | .execute => if s.ca2Code = 0b101 then true else s.dev.ca2State
      | .reset => true
      | _ => s.dev.ca2State

/-- R198: the complete list of the events that write `cb2_state`, at any setting of `HS_ACCESS_MODES`. -/
def Obligations.Cb2IsWrittenByTheListedEventsOnly : Prop :=
  ∀ (i : Instr) (s t : State), s.DefaultBits → exec i s = .next t →
    t.dev.cb2State =
      match i with
      | .wOrb _ => if s.cfg.cb2Mode s.dev.pcr ∈ s.cfg.hsAccessModes then false else s.dev.cb2State
      | .wPcr d => if d.extractLsb' 5 3 = 0b110 then false else true
      | .execute => if s.cb2Code = 0b101 then true else s.dev.cb2State
      | .reset => true
      | _ => s.dev.cb2State

/-- R236: what sets and what clears each of the seven flags; nothing sets the four line flags. -/
def Obligations.FlagsChangeByTheListedEventsOnly : Prop :=
  ∀ (i : Instr) (s t : State) (k : Nat), s.DefaultBits → s.DefaultMode4 → k < 7 → exec i s = .next t →
    t.dev.ifr.getLsbD k = (setsFlag s k i || (!clearsFlag k i && s.dev.ifr.getLsbD k))

/-- R36, R37: only a write of the high slot starts a timer and only a read of the low slot or RESET stops it. -/
def Obligations.TimersStartAndStopByTheirSlotsOnly : Prop :=
  ∀ (i : Instr) (s t : State), exec i s = .next t →
    t.dev.t1.enabled =
      (match i with
      | .wT1ch _ => true
      | .rT1cl | .reset => false
      | _ => s.dev.t1.enabled) ∧
    t.dev.t2.enabled =
      (match i with
      | .wT2ch _ => true
      | .rT2cl | .reset => false
      | _ => s.dev.t2.enabled)

/-- R21 to R25, R27, R28, R30, R31, R33: each stored register and the slots that write it. -/
def Obligations.RegistersChangeByTheirSlotsOnly : Prop :=
  ∀ (i : Instr) (s t : State), exec i s = .next t →
    t.dev.ora = (match i with | .wOra d | .wOraNoHandshake d => d | .reset => 0x00 | _ => s.dev.ora) ∧
    t.dev.orb = (match i with | .wOrb d => d | .reset => 0x00 | _ => s.dev.orb) ∧
    t.dev.ddra = (match i with | .wDdra d => d | .reset => 0x00 | _ => s.dev.ddra) ∧
    t.dev.ddrb = (match i with | .wDdrb d => d | .reset => 0x00 | _ => s.dev.ddrb) ∧
    t.dev.t1ll = (match i with | .wT1cl d | .wT1ll d => d | .reset => 0x00 | _ => s.dev.t1ll) ∧
    t.dev.t1lh = (match i with | .wT1ch d | .wT1lh d => d | .reset => 0x00 | _ => s.dev.t1lh) ∧
    t.dev.t2cl = (match i with | .wT2cl d => d | .reset => 0x00 | _ => s.dev.t2cl) ∧
    t.dev.t2ch = (match i with | .wT2ch d => d | .reset => 0x00 | _ => s.dev.t2ch) ∧
    t.dev.acr = (match i with | .wAcr d => d | .reset => 0x00 | _ => s.dev.acr) ∧
    t.dev.pcr = (match i with | .wPcr d => d | .reset => 0x00 | _ => s.dev.pcr) ∧
    t.dev.ier =
      (match i with
      | .wIer d => if d.getLsbD 7 then s.dev.ier ||| d.setWidth 7 else s.dev.ier &&& ~~~ (d.setWidth 7)
      | .reset => 0
      | _ => s.dev.ier)

/-- R40 (92 D23): one increment per EXECUTE, and RESET; nothing else writes `clk`. The spec takes `clk` as unbounded; that
it wraps modulo 2^w where `CLK_WIDTH` is w is the model's choice (log 18, DESIGN CHOICE). -/
def Obligations.ClkCountsExecutes : Prop :=
  ∀ (i : Instr) (s t : State), exec i s = .next t →
    t.dev.clk =
      match i with
      | .execute =>
        match s.cfg.clkWidth with
        | none => s.dev.clk + 1
        | some w => (s.dev.clk + 1) % 2 ^ w
      | .reset => 0
      | _ => s.dev.clk

/-- R126, R146: what no bus access does. -/
def Obligations.BusAccessesTakeNoTimeAndSetNoFlag : Prop :=
  ∀ (sl : Slot) (d : Byte) (s : State),
    (∃ t, exec (readInstr sl) s = .next t ∧
      t.dev = { s.dev with
        t1 := { s.dev.t1 with enabled := t.dev.t1.enabled }, t2 := { s.dev.t2 with enabled := t.dev.t2.enabled }
        shift := { t.dev.shift with counter := s.dev.shift.counter }
        pb7 := t.dev.pb7, ifr := t.dev.ifr, ca2State := t.dev.ca2State } ∧
      t.dev.ifr &&& ~~~ s.dev.ifr = 0) ∧
    (∃ t, exec (writeInstr d sl) s = .next t ∧
      t.env = s.env ∧ t.dev.ifr &&& ~~~ s.dev.ifr = 0 ∧ t.dev.shift.counter = s.dev.shift.counter ∧
      t.dev.cb1StateSr = s.dev.cb1StateSr ∧ t.dev.cb2StateSr = s.dev.cb2StateSr ∧
      t.dev.ca1State = s.dev.ca1State ∧ t.dev.cb1State = s.dev.cb1State ∧ t.dev.clk = s.dev.clk)

/-- R66: which slots read back the byte just written. -/
def Obligations.WrittenBytesReadBack : Prop :=
  ∀ (sl : Slot) (x : Byte) (s : State),
    sl ∈ [Slot.ddrb, .ddra, .acr, .pcr, .sr, .t1ll, .t1lh, .t1ch, .t2ch] →
    ∃ t u, exec (writeInstr x sl) s = .next t ∧ exec (readInstr sl) t = .next u ∧ u.result = .byte x

/-! ### Invariants -/

/-- R43: every step keeps a legal state legal. -/
def Obligations.LegalStatesStayLegal : Prop := ∀ s t : State, s.Legal → step s = .next t → t.Legal

/-- The state after construction is legal, its lines fit their modes, and RESET leaves it as it is (R221). -/
def Obligations.ConstructedStateIsLegalAndResetKeepsIt : Prop :=
  State.reset.Legal ∧ State.reset.LinesFit ∧ State.reset.AccessSparesFixed ∧ State.reset.TraceOk ∧
    exec .reset State.reset = .next State.reset

/-- R201: a line in an input or fixed mode has the level its mode gives it, whatever runs. -/
def Obligations.LinesKeepTheLevelOfTheirMode : Prop :=
  ∀ s t : State, s.DefaultBits → s.AccessSparesFixed → s.LinesFit → step s = .next t →
    t.DefaultBits ∧ t.AccessSparesFixed ∧ t.LinesFit

/-- R230: a run of operations that the decoder accepts never stops. -/
def Obligations.AcceptedTracesNeverStop : Prop := ∀ s : State, s.TraceOk → ∃ t, step s = .next t ∧ t.TraceOk

/-! ### Steps and words -/

/-- A step runs the oldest issued operation, decoded, in the state in which it is no longer pending (R11, log 1). -/
def Obligations.StepRunsTheDecodedOperation : Prop :=
  ∀ (s : State) (o : Issue) (rest : List Issue) (i : Instr),
    s.pending = o :: rest → decode s.cfg.regmap o.word o.beside = .instr i →
    step s = exec i { s with pending := rest }

/-- With nothing issued nothing changes (R248, log 2); an issued word of op code 12 to 15 is refused (R92). -/
def Obligations.StepIdlesOrRefusesReservedCodes : Prop :=
  ∀ s : State,
    (s.pending = [] → step s = .next s) ∧
    (∀ (o : Issue) (rest : List Issue), s.pending = o :: rest → 12 ≤ (o.word.extractLsb' 12 4).toNat →
      step s = .refused (.reservedOpcode (o.word.extractLsb' 12 4)))

/-- Decoding an encoded well-formed operation gives it back, under every well-formed register map (R82, R84, R97). -/
def Obligations.DecodingAnEncodedOperationGivesItBack : Prop :=
  ∀ (m : RegMap) (i : Instr), m.wf = true → i.wf = true →
    decode m (encode m i).word (encode m i).beside = .instr i

/-- Words of the programs of 95_test_vectors.md and one word that no operation has (R92). The word of a registration carries
no function: that the host's table word 0xB000, with nothing beside it, reads as "absent" is the model's (log 20, DEDUCED). -/
def Obligations.TheSpecsTraceWordsDecode : Prop :=
  decodeTableWord 16 0x0EC0 = some (.wIer 0xC0) ∧ decodeTableWord 16 0x0610 = some (.wT1ll 0x10) ∧
  decodeTableWord 16 0x1D00 = some .rIfr ∧ decodeTableWord 16 0x1F00 = some .rOraNoHandshake ∧
  decodeTableWord 16 0x2000 = some .execute ∧ decodeTableWord 16 0x3000 = some .reset ∧
  decodeTableWord 16 0x4000 = some .getIrq ∧ decodeTableWord 16 0xB000 = some (.setUpdCb none) ∧
  decodeTableWord 16 0xC000 = none

/-- R82: the decoder ignores `d` of a READ, and `rs` and `d` of op codes 2 to 11. -/
def Obligations.DecodingIgnoresTheUnusedFields : Prop :=
  ∀ (m : RegMap) (w w' : TraceWord) (b : Beside),
    w.extractLsb' 12 4 = w'.extractLsb' 12 4 →
    (w.extractLsb' 12 4 = 1 → w.extractLsb' 8 4 = w'.extractLsb' 8 4) → w.extractLsb' 12 4 ≠ 0 →
    decode m w b = decode m w' b

/-- R86, R87, R88, R90, R96 (general knowledge, 93 K2 to K7, log 10): the fields, codes, flags and masks of the default
layouts. -/
def Obligations.DefaultLayoutsPlaceTheFields : Prop :=
  let mode (f : BitVec 3) : LineMode :=
    match f.toNat with
    | 0 => .inputNegEdge
    | 1 => .independentNegEdge
    | 2 => .inputPosEdge
    | 3 => .independentPosEdge
    | 4 => .handshakeOutput
    | 5 => .pulseOutput
    | 6 => .fixedLow
    | _ => .fixedHigh
  (∀ r : Byte,
    Config.default.pb7Control r = r.getLsbD 7 ∧ Config.default.t1IsContinuous r = r.getLsbD 6 ∧
    Config.default.t2CountsPulses r = r.getLsbD 5 ∧ Config.default.shiftsOut r = r.getLsbD 4 ∧
    (Config.default.srMode r =
      match (r.extractLsb' 2 3).toNat with
      | 0 => .disabled
      | 1 => .inT2
      | 2 => .inPhi2
      | 3 => .inExt
      | 4 => .outFree
      | 5 => .outT2
      | 6 => .outPhi2
      | _ => .outExt) ∧
    (Config.default.srClass r =
      match (r.extractLsb' 2 3).toNat with
      | 0 => .disabled
      | 2 | 6 => .phi2
      | 3 | 7 => .ext
      | _ => .t2) ∧
    Config.default.ca2Mode r = mode (r.extractLsb' 1 3) ∧ Config.default.cb2Mode r = mode (r.extractLsb' 5 3)) ∧
  Config.default.t1Int = 0x40 ∧ Config.default.t2Int = 0x20 ∧ flagMask Config.default.ifrBits.cb1 = 0x10 ∧
  flagMask Config.default.ifrBits.cb2 = 0x08 ∧ Config.default.srInt = 0x04 ∧
  flagMask Config.default.ifrBits.ca1 = 0x02 ∧ flagMask Config.default.ifrBits.ca2 = 0x01 ∧
  Config.default.ca2Mask = 0x0E ∧ Config.default.cb2Mask = 0xE0 ∧ Config.default.t1Pb7ControlMask = 0x80 ∧
  Config.default.srMask = 0x1C ∧
  AcrLayout.default.portBLatch = 1 ∧ AcrLayout.default.portALatch = 0 ∧
  PcrLayout.default.ca1Control = 0 ∧ PcrLayout.default.cb1Control = 4

/-! ### Timing, in EXECUTEs -/

/-- R155: after a load of N by WRITE T1CH the counter falls by one per EXECUTE, the flag is clear for N of them, and the
(N+1)-th sets it, in either mode. -/
def Obligations.Timer1FlagComesAtTheNextExecuteAfterZero : Prop :=
  ∀ (d : Byte) (s : State), s.DefaultBits →
    (∀ k, k ≤ (d ++ s.dev.t1ll : Word).toNat →
      ∃ t, execAll (.wT1ch d :: pseudoX k) s = .next t ∧
        t.dev.t1.counter.toNat = (d ++ s.dev.t1ll : Word).toNat - k ∧ t.dev.ifr.getLsbD 6 = false) ∧
    (∃ t, execAll (.wT1ch d :: pseudoX ((d ++ s.dev.t1ll : Word).toNat + 1)) s = .next t ∧
      t.dev.ifr.getLsbD 6 = true)

/-- R155: a continuous Timer 1 that stands at its latch N runs with period N+1 for ever, sets its flag in each period,
and under PB7 control drives a square wave of half-period N+1. -/
def Obligations.ContinuousTimer1HasPeriodNPlusOne : Prop :=
  ∀ (s : State) (k : Nat), s.DefaultBits → s.dev.t1.enabled = true → s.dev.acr.getLsbD 6 = true →
    s.dev.t1.counter = s.dev.t1lh ++ s.dev.t1ll →
    ∃ t, execAll (pseudoX k) s = .next t ∧
      t.dev.t1.counter.toNat = s.dev.t1.counter.toNat - k % (s.dev.t1.counter.toNat + 1) ∧
      t.dev.ifr.getLsbD 6 = (s.dev.ifr.getLsbD 6 || decide (s.dev.t1.counter.toNat < k)) ∧
      t.dev.pb7 = (if s.dev.acr.getLsbD 7 ∧ k / (s.dev.t1.counter.toNat + 1) % 2 = 1
        then s.dev.pb7 ^^^ 0x80 else s.dev.pb7)

/-- R154, R156, R282: a fired one-shot timer sets no further flag, however long it runs, and its counter goes on. -/
def Obligations.FiredOneShotTimersStaySilent : Prop :=
  ∀ (s : State) (k : Nat), s.DefaultBits →
    ∃ t, execAll (pseudoX k) s = .next t ∧
      (s.dev.t1.enabled = true → s.dev.acr.getLsbD 6 = false → s.dev.t1.oneShot = true →
        t.dev.ifr.getLsbD 6 = s.dev.ifr.getLsbD 6 ∧ t.dev.t1.oneShot = true ∧
        t.dev.t1.counter = s.dev.t1.counter - BitVec.ofNat 16 k) ∧
      (s.dev.t2.enabled = true → s.dev.acr.getLsbD 5 = false → s.dev.t2.oneShot = true →
        t.dev.ifr.getLsbD 5 = s.dev.ifr.getLsbD 5 ∧ t.dev.t2.oneShot = true ∧
        t.dev.t2.counter = s.dev.t2.counter - BitVec.ofNat 16 k)

/-- R156: after a load of N by WRITE T2CH the flag is clear for N EXECUTEs and the (N+1)-th sets it. -/
def Obligations.Timer2FlagComesAtTheNextExecuteAfterZero : Prop :=
  ∀ (d : Byte) (s : State), s.DefaultBits → s.dev.acr.getLsbD 5 = false →
    (∀ k, k ≤ (d ++ s.dev.t2cl : Word).toNat →
      ∃ t, execAll (.wT2ch d :: pseudoX k) s = .next t ∧
        t.dev.t2.counter.toNat = (d ++ s.dev.t2cl : Word).toNat - k ∧ t.dev.ifr.getLsbD 5 = false) ∧
    (∃ t, execAll (.wT2ch d :: pseudoX ((d ++ s.dev.t2cl : Word).toNat + 1)) s = .next t ∧
      t.dev.ifr.getLsbD 5 = true ∧ t.dev.t2.counter = 0xFFFF ∧ t.dev.t2.oneShot = true)

/-- R178, R182 (92 D14 to D16): under the phase-2 clock a byte written to SR leaves most significant bit first, one bit
per EXECUTE; the eighth sets the flag, stops the unit and leaves the byte as it was written. -/
def Obligations.PhaseTwoShiftOutSendsTheByte : Prop :=
  ∀ (d : Byte) (s : State), s.DefaultBits → s.cfg.srShiftOn = .every → s.srCode = 0b110 →
    (∀ k, k < 8 → ∃ t, execAll (.wSr d :: pseudoX (k + 1)) s = .next t ∧
      t.dev.cb2StateSr = d.getLsbD (7 - k) ∧ t.dev.ifr.getLsbD 2 = decide (k = 7)) ∧
    (∃ t, execAll (.wSr d :: pseudoX 8) s = .next t ∧
      t.dev.sr = d ∧ t.dev.shift.enabled = false ∧ t.dev.shift.shifted = 8)

/-- R174, R181, R182 (92 D17, D18): in class T2 with stored `T2CL` = N, from a cycle that starts with the sub-counter at 0,
the sub-counter runs down from N to 0 with period N+1 and `cb1_state_sr` toggles in the first EXECUTE of each period alone. -/
def Obligations.TimerTwoShiftClockHasPeriodNPlusOne : Prop :=
  ∀ (s : State) (j : Nat), s.DefaultBits → s.DefaultMode4 → s.srCode ∈ [(1 : BitVec 3), 4, 5] →
    s.dev.shift.counter = 0x00 →
    ∃ t, execAll (pseudoX j) s = .next t ∧
      t.dev.shift.counter.toNat =
        (s.dev.t2cl.toNat + 1 - j % (s.dev.t2cl.toNat + 1)) % (s.dev.t2cl.toNat + 1) ∧
      t.dev.cb1StateSr =
        (s.dev.cb1StateSr ^^ decide ((j + s.dev.t2cl.toNat) / (s.dev.t2cl.toNat + 1) % 2 = 1))

/-- R206: in pulse-output mode the line lowered by a READ ORA is low for exactly one observer sample. -/
def Obligations.HandshakePulseIsOneSampleWide : Prop :=
  ∀ (s : State) (r : SinkRef), s.DefaultBits → s.DefaultAccess → s.ca2Code = 0b101 → s.env.updateCb = some r →
    ∃ (t u : State) (o o' : Observation) (c c' : List EnvCall),
      execAll [.rOra, .execute] s = .next t ∧ exec .execute t = .next u ∧
      t.env.calls = .observed r o :: c ∧ o.ca2 = false ∧
      u.env.calls = .observed r o' :: c' ∧ o'.ca2 = true

/-- R261: a device in the reset state but for `clk` is left so by EXECUTE, whatever callbacks are registered (92 D22) and
at every setting of the other parameters; an observer is shown the input of port B, `CA2` and `CB2` high and `CA1` and `CB1`
low. Without an observer any number of EXECUTEs changes `clk` alone. The wrap of `clk` at `CLK_WIDTH` is the model's choice
(log 18), and so are the sink and the record of the calls (logs 5, 7). -/
def Obligations.ResetStateIsAFixedPointButForClk : Prop :=
  ∀ (s : State) (n : Nat), s.DefaultBits → s.dev = { Device.reset with clk := n } →
    (∃ e, exec .execute s = .next { s with
        dev := { Device.reset with clk := clkAfter s.cfg n 1 }, env := e, result := .nothing } ∧
      (s.env.updateCb = none → e = s.env) ∧
      (∀ r, s.env.updateCb = some r → ∃ (input : Byte) (e' : Env), s.PortBEvaluates input e' ∧
        e = { e' with
          calls := .observed r
            { ora := 0x00, portB := input, ca1 := false, ca2 := true, cb1 := false, cb2 := true } :: e'.calls })) ∧
    (∀ k : Nat, s.env.updateCb = none → execAll (pseudoX k) s = .next { s with
      dev := { Device.reset with clk := clkAfter s.cfg n k }
      result := if k = 0 then s.result else .nothing })
end

