-- ==== Sys2Proof/Laws/Decode.lean ====
section
/-! SUPPORT. The fields of a trace word and the register map's addresses (30_encoding.md R82, R84). -/

namespace Sys2Proof

/-- The bits of a trace word, field by field. -/
theorem traceWord_getLsbD (op rs : BitVec 4) (d : Byte) (i : Nat) :
    (traceWord op rs d).getLsbD i =
      if i < 8 then d.getLsbD i else if i < 12 then rs.getLsbD (i - 8) else op.getLsbD (i - 12) := by
  have h1 : (traceWord op rs d).getLsbD i = if i < 8 then d.getLsbD i else (op ++ rs).getLsbD (i - 8) :=
    BitVec.getLsbD_append
  rw [h1, BitVec.getLsbD_append]
  (repeat' split) <;> first | rfl | omega

@[simp] theorem opField_traceWord (op rs : BitVec 4) (d : Byte) : opField (traceWord op rs d) = op := by
  ext i hi
  simp [opField, traceWord_getLsbD, show ¬ 12 + i < 8 by omega, BitVec.getLsbD_eq_getElem hi]

@[simp] theorem rsField_traceWord (op rs : BitVec 4) (d : Byte) : rsField (traceWord op rs d) = rs := by
  ext i hi
  simp [rsField, traceWord_getLsbD, show 8 + i < 12 by omega, BitVec.getLsbD_eq_getElem hi]

@[simp] theorem dField_traceWord (op rs : BitVec 4) (d : Byte) : dField (traceWord op rs d) = d := by
  ext i hi
  simp [dField, traceWord_getLsbD, hi]

/-- The mask 0xFF00 keeps `op` and `rs` and drops `d`. -/
theorem traceWord_and_FF00 (op rs : BitVec 4) (d : Byte) : traceWord op rs d &&& 0xFF00 = traceWord op rs 0 := by
  have hm : ∀ j : Fin 16, (0xFF00#16).getLsbD j.val = decide (8 ≤ j.val) := by decide
  apply BitVec.eq_of_getLsbD_eq
  intro i hi
  have h8 := hm ⟨i, hi⟩
  simp only [BitVec.getLsbD_and, traceWord_getLsbD]
  rw [show (0xFF00 : TraceWord) = 0xFF00#16 from rfl, h8]
  by_cases h : i < 8
  · simp [h]
  · simp [h, show 8 ≤ i by omega]

/-- `distinct` is absence of repetition. -/
theorem distinct_iff_nodup {α : Type} [DecidableEq α] (l : List α) : distinct l = true ↔ l.Nodup := by
  induction l with
  | nil => simp [distinct]
  | cons a as ih => simp [distinct, ih]

/-- Sixteen different slots are all of them. -/
theorem slot_mem_of_wf (m : RegMap) (h : m.wf = true) (sl : Slot) : sl ∈ m.slots.toList := by
  have hn : m.slots.toList.Nodup := (distinct_iff_nodup _).1 h
  let all : List Slot := RegMap.default.slots.toList
  have hall : ∀ x : Slot, x ∈ all := by intro x; cases x <;> decide
  have hsub : m.slots.toList ⊆ all := fun x _ => hall x
  have hlen : all.length ≤ m.slots.toList.length := by simp [all]
  exact ((hn.subperm hsub).perm_of_length_le hlen).mem_iff.2 (hall sl)

/-- Under a well-formed map the address of a slot selects that slot. -/
theorem slotAt_address (m : RegMap) (h : m.wf = true) (sl : Slot) : m.slotAt (m.address sl) = sl := by
  have hi : m.slots.toList.idxOf sl < m.slots.toList.length := List.idxOf_lt_length_iff.2 (slot_mem_of_wf m h sl)
  have h16 : m.slots.toList.idxOf sl < 16 := by simpa using hi
  have hg : m.slots.toList[m.slots.toList.idxOf sl] = sl := List.getElem_idxOf hi
  have hn : (m.address sl).toNat = m.slots.toList.idxOf sl := by
    simp only [RegMap.address, BitVec.toNat_ofNat]
    omega
  simp only [RegMap.slotAt, hn]
  exact (Vector.getElem_toList hi).symm.trans hg

end Sys2Proof
end

