-- ==== Sys2Proof/Laws/State.lean ====
section
/-! SUPPORT. One lemma per field per update of the device record, so that no proof unfolds a record update. The three
steps of EXECUTE that branch have theirs in Laws/Timers.lean and Laws/Shift.lean. -/

namespace Sys2Proof.Machine

/-! ### setIfr: `set_ifr` writes `IFR[6:0]` alone (60_exceptions.md R232). -/

@[simp] theorem setIfr_ora (m : Byte) (b : Bool) (v : Device) : (setIfr m b v).ora = v.ora := rfl
@[simp] theorem setIfr_orb (m : Byte) (b : Bool) (v : Device) : (setIfr m b v).orb = v.orb := rfl
@[simp] theorem setIfr_ddra (m : Byte) (b : Bool) (v : Device) : (setIfr m b v).ddra = v.ddra := rfl
@[simp] theorem setIfr_ddrb (m : Byte) (b : Bool) (v : Device) : (setIfr m b v).ddrb = v.ddrb := rfl
@[simp] theorem setIfr_t1ll (m : Byte) (b : Bool) (v : Device) : (setIfr m b v).t1ll = v.t1ll := rfl
@[simp] theorem setIfr_t1lh (m : Byte) (b : Bool) (v : Device) : (setIfr m b v).t1lh = v.t1lh := rfl
@[simp] theorem setIfr_t2cl (m : Byte) (b : Bool) (v : Device) : (setIfr m b v).t2cl = v.t2cl := rfl
@[simp] theorem setIfr_t2ch (m : Byte) (b : Bool) (v : Device) : (setIfr m b v).t2ch = v.t2ch := rfl
@[simp] theorem setIfr_sr (m : Byte) (b : Bool) (v : Device) : (setIfr m b v).sr = v.sr := rfl
@[simp] theorem setIfr_acr (m : Byte) (b : Bool) (v : Device) : (setIfr m b v).acr = v.acr := rfl
@[simp] theorem setIfr_pcr (m : Byte) (b : Bool) (v : Device) : (setIfr m b v).pcr = v.pcr := rfl
@[simp] theorem setIfr_ier (m : Byte) (b : Bool) (v : Device) : (setIfr m b v).ier = v.ier := rfl
@[simp] theorem setIfr_pb7 (m : Byte) (b : Bool) (v : Device) : (setIfr m b v).pb7 = v.pb7 := rfl
@[simp] theorem setIfr_ira (m : Byte) (b : Bool) (v : Device) : (setIfr m b v).ira = v.ira := rfl
@[simp] theorem setIfr_irb (m : Byte) (b : Bool) (v : Device) : (setIfr m b v).irb = v.irb := rfl
@[simp] theorem setIfr_iraLatch (m : Byte) (b : Bool) (v : Device) : (setIfr m b v).iraLatch = v.iraLatch := rfl
@[simp] theorem setIfr_irbLatch (m : Byte) (b : Bool) (v : Device) : (setIfr m b v).irbLatch = v.irbLatch := rfl
@[simp] theorem setIfr_t1 (m : Byte) (b : Bool) (v : Device) : (setIfr m b v).t1 = v.t1 := rfl
@[simp] theorem setIfr_t2 (m : Byte) (b : Bool) (v : Device) : (setIfr m b v).t2 = v.t2 := rfl
@[simp] theorem setIfr_shift (m : Byte) (b : Bool) (v : Device) : (setIfr m b v).shift = v.shift := rfl
@[simp] theorem setIfr_ca1State (m : Byte) (b : Bool) (v : Device) : (setIfr m b v).ca1State = v.ca1State := rfl
@[simp] theorem setIfr_ca2State (m : Byte) (b : Bool) (v : Device) : (setIfr m b v).ca2State = v.ca2State := rfl
@[simp] theorem setIfr_cb1State (m : Byte) (b : Bool) (v : Device) : (setIfr m b v).cb1State = v.cb1State := rfl
@[simp] theorem setIfr_cb1StateSr (m : Byte) (b : Bool) (v : Device) : (setIfr m b v).cb1StateSr = v.cb1StateSr := rfl
@[simp] theorem setIfr_cb2State (m : Byte) (b : Bool) (v : Device) : (setIfr m b v).cb2State = v.cb2State := rfl
@[simp] theorem setIfr_cb2StateSr (m : Byte) (b : Bool) (v : Device) : (setIfr m b v).cb2StateSr = v.cb2StateSr := rfl
@[simp] theorem setIfr_clk (m : Byte) (b : Bool) (v : Device) : (setIfr m b v).clk = v.clk := rfl

/-! ### setIer: `set_ier` writes `IER[6:0]` alone (60_exceptions.md R233). -/

@[simp] theorem setIer_ora (d : Byte) (v : Device) : (setIer d v).ora = v.ora := rfl
@[simp] theorem setIer_orb (d : Byte) (v : Device) : (setIer d v).orb = v.orb := rfl
@[simp] theorem setIer_ddra (d : Byte) (v : Device) : (setIer d v).ddra = v.ddra := rfl
@[simp] theorem setIer_ddrb (d : Byte) (v : Device) : (setIer d v).ddrb = v.ddrb := rfl
@[simp] theorem setIer_t1ll (d : Byte) (v : Device) : (setIer d v).t1ll = v.t1ll := rfl
@[simp] theorem setIer_t1lh (d : Byte) (v : Device) : (setIer d v).t1lh = v.t1lh := rfl
@[simp] theorem setIer_t2cl (d : Byte) (v : Device) : (setIer d v).t2cl = v.t2cl := rfl
@[simp] theorem setIer_t2ch (d : Byte) (v : Device) : (setIer d v).t2ch = v.t2ch := rfl
@[simp] theorem setIer_sr (d : Byte) (v : Device) : (setIer d v).sr = v.sr := rfl
@[simp] theorem setIer_acr (d : Byte) (v : Device) : (setIer d v).acr = v.acr := rfl
@[simp] theorem setIer_pcr (d : Byte) (v : Device) : (setIer d v).pcr = v.pcr := rfl
@[simp] theorem setIer_ifr (d : Byte) (v : Device) : (setIer d v).ifr = v.ifr := rfl
@[simp] theorem setIer_pb7 (d : Byte) (v : Device) : (setIer d v).pb7 = v.pb7 := rfl
@[simp] theorem setIer_ira (d : Byte) (v : Device) : (setIer d v).ira = v.ira := rfl
@[simp] theorem setIer_irb (d : Byte) (v : Device) : (setIer d v).irb = v.irb := rfl
@[simp] theorem setIer_iraLatch (d : Byte) (v : Device) : (setIer d v).iraLatch = v.iraLatch := rfl
@[simp] theorem setIer_irbLatch (d : Byte) (v : Device) : (setIer d v).irbLatch = v.irbLatch := rfl
@[simp] theorem setIer_t1 (d : Byte) (v : Device) : (setIer d v).t1 = v.t1 := rfl
@[simp] theorem setIer_t2 (d : Byte) (v : Device) : (setIer d v).t2 = v.t2 := rfl
@[simp] theorem setIer_shift (d : Byte) (v : Device) : (setIer d v).shift = v.shift := rfl
@[simp] theorem setIer_ca1State (d : Byte) (v : Device) : (setIer d v).ca1State = v.ca1State := rfl
@[simp] theorem setIer_ca2State (d : Byte) (v : Device) : (setIer d v).ca2State = v.ca2State := rfl
@[simp] theorem setIer_cb1State (d : Byte) (v : Device) : (setIer d v).cb1State = v.cb1State := rfl
@[simp] theorem setIer_cb1StateSr (d : Byte) (v : Device) : (setIer d v).cb1StateSr = v.cb1StateSr := rfl
@[simp] theorem setIer_cb2State (d : Byte) (v : Device) : (setIer d v).cb2State = v.cb2State := rfl
@[simp] theorem setIer_cb2StateSr (d : Byte) (v : Device) : (setIer d v).cb2StateSr = v.cb2StateSr := rfl
@[simp] theorem setIer_clk (d : Byte) (v : Device) : (setIer d v).clk = v.clk := rfl

/-! ### setPb7: Timer 1's drive writes `PB7` alone (10_state.md R34). -/

@[simp] theorem setPb7_ora (c : Config) (l : Byte) (v : Device) : (setPb7 c l v).ora = v.ora := rfl
@[simp] theorem setPb7_orb (c : Config) (l : Byte) (v : Device) : (setPb7 c l v).orb = v.orb := rfl
@[simp] theorem setPb7_ddra (c : Config) (l : Byte) (v : Device) : (setPb7 c l v).ddra = v.ddra := rfl
@[simp] theorem setPb7_ddrb (c : Config) (l : Byte) (v : Device) : (setPb7 c l v).ddrb = v.ddrb := rfl
@[simp] theorem setPb7_t1ll (c : Config) (l : Byte) (v : Device) : (setPb7 c l v).t1ll = v.t1ll := rfl
@[simp] theorem setPb7_t1lh (c : Config) (l : Byte) (v : Device) : (setPb7 c l v).t1lh = v.t1lh := rfl
@[simp] theorem setPb7_t2cl (c : Config) (l : Byte) (v : Device) : (setPb7 c l v).t2cl = v.t2cl := rfl
@[simp] theorem setPb7_t2ch (c : Config) (l : Byte) (v : Device) : (setPb7 c l v).t2ch = v.t2ch := rfl
@[simp] theorem setPb7_sr (c : Config) (l : Byte) (v : Device) : (setPb7 c l v).sr = v.sr := rfl
@[simp] theorem setPb7_acr (c : Config) (l : Byte) (v : Device) : (setPb7 c l v).acr = v.acr := rfl
@[simp] theorem setPb7_pcr (c : Config) (l : Byte) (v : Device) : (setPb7 c l v).pcr = v.pcr := rfl
@[simp] theorem setPb7_ifr (c : Config) (l : Byte) (v : Device) : (setPb7 c l v).ifr = v.ifr := rfl
@[simp] theorem setPb7_ier (c : Config) (l : Byte) (v : Device) : (setPb7 c l v).ier = v.ier := rfl
@[simp] theorem setPb7_ira (c : Config) (l : Byte) (v : Device) : (setPb7 c l v).ira = v.ira := rfl
@[simp] theorem setPb7_irb (c : Config) (l : Byte) (v : Device) : (setPb7 c l v).irb = v.irb := rfl
@[simp] theorem setPb7_iraLatch (c : Config) (l : Byte) (v : Device) : (setPb7 c l v).iraLatch = v.iraLatch := rfl
@[simp] theorem setPb7_irbLatch (c : Config) (l : Byte) (v : Device) : (setPb7 c l v).irbLatch = v.irbLatch := rfl
@[simp] theorem setPb7_t1 (c : Config) (l : Byte) (v : Device) : (setPb7 c l v).t1 = v.t1 := rfl
@[simp] theorem setPb7_t2 (c : Config) (l : Byte) (v : Device) : (setPb7 c l v).t2 = v.t2 := rfl
@[simp] theorem setPb7_shift (c : Config) (l : Byte) (v : Device) : (setPb7 c l v).shift = v.shift := rfl
@[simp] theorem setPb7_ca1State (c : Config) (l : Byte) (v : Device) : (setPb7 c l v).ca1State = v.ca1State := rfl
@[simp] theorem setPb7_ca2State (c : Config) (l : Byte) (v : Device) : (setPb7 c l v).ca2State = v.ca2State := rfl
@[simp] theorem setPb7_cb1State (c : Config) (l : Byte) (v : Device) : (setPb7 c l v).cb1State = v.cb1State := rfl
@[simp] theorem setPb7_cb1StateSr (c : Config) (l : Byte) (v : Device) : (setPb7 c l v).cb1StateSr = v.cb1StateSr := rfl
@[simp] theorem setPb7_cb2State (c : Config) (l : Byte) (v : Device) : (setPb7 c l v).cb2State = v.cb2State := rfl
@[simp] theorem setPb7_cb2StateSr (c : Config) (l : Byte) (v : Device) : (setPb7 c l v).cb2StateSr = v.cb2StateSr := rfl
@[simp] theorem setPb7_clk (c : Config) (l : Byte) (v : Device) : (setPb7 c l v).clk = v.clk := rfl

/-! ### accessCa2: A port-A access writes `ca2_state` alone (44_port_io_handshake.md R197). -/

@[simp] theorem accessCa2_ora (c : Config) (l : Bool) (v : Device) : (accessCa2 c l v).ora = v.ora := rfl
@[simp] theorem accessCa2_orb (c : Config) (l : Bool) (v : Device) : (accessCa2 c l v).orb = v.orb := rfl
@[simp] theorem accessCa2_ddra (c : Config) (l : Bool) (v : Device) : (accessCa2 c l v).ddra = v.ddra := rfl
@[simp] theorem accessCa2_ddrb (c : Config) (l : Bool) (v : Device) : (accessCa2 c l v).ddrb = v.ddrb := rfl
@[simp] theorem accessCa2_t1ll (c : Config) (l : Bool) (v : Device) : (accessCa2 c l v).t1ll = v.t1ll := rfl
@[simp] theorem accessCa2_t1lh (c : Config) (l : Bool) (v : Device) : (accessCa2 c l v).t1lh = v.t1lh := rfl
@[simp] theorem accessCa2_t2cl (c : Config) (l : Bool) (v : Device) : (accessCa2 c l v).t2cl = v.t2cl := rfl
@[simp] theorem accessCa2_t2ch (c : Config) (l : Bool) (v : Device) : (accessCa2 c l v).t2ch = v.t2ch := rfl
@[simp] theorem accessCa2_sr (c : Config) (l : Bool) (v : Device) : (accessCa2 c l v).sr = v.sr := rfl
@[simp] theorem accessCa2_acr (c : Config) (l : Bool) (v : Device) : (accessCa2 c l v).acr = v.acr := rfl
@[simp] theorem accessCa2_pcr (c : Config) (l : Bool) (v : Device) : (accessCa2 c l v).pcr = v.pcr := rfl
@[simp] theorem accessCa2_ifr (c : Config) (l : Bool) (v : Device) : (accessCa2 c l v).ifr = v.ifr := rfl
@[simp] theorem accessCa2_ier (c : Config) (l : Bool) (v : Device) : (accessCa2 c l v).ier = v.ier := rfl
@[simp] theorem accessCa2_pb7 (c : Config) (l : Bool) (v : Device) : (accessCa2 c l v).pb7 = v.pb7 := rfl
@[simp] theorem accessCa2_ira (c : Config) (l : Bool) (v : Device) : (accessCa2 c l v).ira = v.ira := rfl
@[simp] theorem accessCa2_irb (c : Config) (l : Bool) (v : Device) : (accessCa2 c l v).irb = v.irb := rfl
@[simp] theorem accessCa2_iraLatch (c : Config) (l : Bool) (v : Device) : (accessCa2 c l v).iraLatch = v.iraLatch := rfl
@[simp] theorem accessCa2_irbLatch (c : Config) (l : Bool) (v : Device) : (accessCa2 c l v).irbLatch = v.irbLatch := rfl
@[simp] theorem accessCa2_t1 (c : Config) (l : Bool) (v : Device) : (accessCa2 c l v).t1 = v.t1 := rfl
@[simp] theorem accessCa2_t2 (c : Config) (l : Bool) (v : Device) : (accessCa2 c l v).t2 = v.t2 := rfl
@[simp] theorem accessCa2_shift (c : Config) (l : Bool) (v : Device) : (accessCa2 c l v).shift = v.shift := rfl
@[simp] theorem accessCa2_ca1State (c : Config) (l : Bool) (v : Device) : (accessCa2 c l v).ca1State = v.ca1State := rfl
@[simp] theorem accessCa2_cb1State (c : Config) (l : Bool) (v : Device) : (accessCa2 c l v).cb1State = v.cb1State := rfl
@[simp] theorem accessCa2_cb1StateSr (c : Config) (l : Bool) (v : Device) : (accessCa2 c l v).cb1StateSr = v.cb1StateSr := rfl
@[simp] theorem accessCa2_cb2State (c : Config) (l : Bool) (v : Device) : (accessCa2 c l v).cb2State = v.cb2State := rfl
@[simp] theorem accessCa2_cb2StateSr (c : Config) (l : Bool) (v : Device) : (accessCa2 c l v).cb2StateSr = v.cb2StateSr := rfl
@[simp] theorem accessCa2_clk (c : Config) (l : Bool) (v : Device) : (accessCa2 c l v).clk = v.clk := rfl

/-! ### accessCb2: A port-B access writes `cb2_state` alone (44_port_io_handshake.md R198). -/

@[simp] theorem accessCb2_ora (c : Config) (l : Bool) (v : Device) : (accessCb2 c l v).ora = v.ora := rfl
@[simp] theorem accessCb2_orb (c : Config) (l : Bool) (v : Device) : (accessCb2 c l v).orb = v.orb := rfl
@[simp] theorem accessCb2_ddra (c : Config) (l : Bool) (v : Device) : (accessCb2 c l v).ddra = v.ddra := rfl
@[simp] theorem accessCb2_ddrb (c : Config) (l : Bool) (v : Device) : (accessCb2 c l v).ddrb = v.ddrb := rfl
@[simp] theorem accessCb2_t1ll (c : Config) (l : Bool) (v : Device) : (accessCb2 c l v).t1ll = v.t1ll := rfl
@[simp] theorem accessCb2_t1lh (c : Config) (l : Bool) (v : Device) : (accessCb2 c l v).t1lh = v.t1lh := rfl
@[simp] theorem accessCb2_t2cl (c : Config) (l : Bool) (v : Device) : (accessCb2 c l v).t2cl = v.t2cl := rfl
@[simp] theorem accessCb2_t2ch (c : Config) (l : Bool) (v : Device) : (accessCb2 c l v).t2ch = v.t2ch := rfl
@[simp] theorem accessCb2_sr (c : Config) (l : Bool) (v : Device) : (accessCb2 c l v).sr = v.sr := rfl
@[simp] theorem accessCb2_acr (c : Config) (l : Bool) (v : Device) : (accessCb2 c l v).acr = v.acr := rfl
@[simp] theorem accessCb2_pcr (c : Config) (l : Bool) (v : Device) : (accessCb2 c l v).pcr = v.pcr := rfl
@[simp] theorem accessCb2_ifr (c : Config) (l : Bool) (v : Device) : (accessCb2 c l v).ifr = v.ifr := rfl
@[simp] theorem accessCb2_ier (c : Config) (l : Bool) (v : Device) : (accessCb2 c l v).ier = v.ier := rfl
@[simp] theorem accessCb2_pb7 (c : Config) (l : Bool) (v : Device) : (accessCb2 c l v).pb7 = v.pb7 := rfl
@[simp] theorem accessCb2_ira (c : Config) (l : Bool) (v : Device) : (accessCb2 c l v).ira = v.ira := rfl
@[simp] theorem accessCb2_irb (c : Config) (l : Bool) (v : Device) : (accessCb2 c l v).irb = v.irb := rfl
@[simp] theorem accessCb2_iraLatch (c : Config) (l : Bool) (v : Device) : (accessCb2 c l v).iraLatch = v.iraLatch := rfl
@[simp] theorem accessCb2_irbLatch (c : Config) (l : Bool) (v : Device) : (accessCb2 c l v).irbLatch = v.irbLatch := rfl
@[simp] theorem accessCb2_t1 (c : Config) (l : Bool) (v : Device) : (accessCb2 c l v).t1 = v.t1 := rfl
@[simp] theorem accessCb2_t2 (c : Config) (l : Bool) (v : Device) : (accessCb2 c l v).t2 = v.t2 := rfl
@[simp] theorem accessCb2_shift (c : Config) (l : Bool) (v : Device) : (accessCb2 c l v).shift = v.shift := rfl
@[simp] theorem accessCb2_ca1State (c : Config) (l : Bool) (v : Device) : (accessCb2 c l v).ca1State = v.ca1State := rfl
@[simp] theorem accessCb2_ca2State (c : Config) (l : Bool) (v : Device) : (accessCb2 c l v).ca2State = v.ca2State := rfl
@[simp] theorem accessCb2_cb1State (c : Config) (l : Bool) (v : Device) : (accessCb2 c l v).cb1State = v.cb1State := rfl
@[simp] theorem accessCb2_cb1StateSr (c : Config) (l : Bool) (v : Device) : (accessCb2 c l v).cb1StateSr = v.cb1StateSr := rfl
@[simp] theorem accessCb2_cb2StateSr (c : Config) (l : Bool) (v : Device) : (accessCb2 c l v).cb2StateSr = v.cb2StateSr := rfl
@[simp] theorem accessCb2_clk (c : Config) (l : Bool) (v : Device) : (accessCb2 c l v).clk = v.clk := rfl

/-! ### srSubCounter: The sub-counter writes `sr.counter` alone (43_shift_register.md R181). -/

@[simp] theorem srSubCounter_ora (v : Device) : (srSubCounter v).ora = v.ora := rfl
@[simp] theorem srSubCounter_orb (v : Device) : (srSubCounter v).orb = v.orb := rfl
@[simp] theorem srSubCounter_ddra (v : Device) : (srSubCounter v).ddra = v.ddra := rfl
@[simp] theorem srSubCounter_ddrb (v : Device) : (srSubCounter v).ddrb = v.ddrb := rfl
@[simp] theorem srSubCounter_t1ll (v : Device) : (srSubCounter v).t1ll = v.t1ll := rfl
@[simp] theorem srSubCounter_t1lh (v : Device) : (srSubCounter v).t1lh = v.t1lh := rfl
@[simp] theorem srSubCounter_t2cl (v : Device) : (srSubCounter v).t2cl = v.t2cl := rfl
@[simp] theorem srSubCounter_t2ch (v : Device) : (srSubCounter v).t2ch = v.t2ch := rfl
@[simp] theorem srSubCounter_sr (v : Device) : (srSubCounter v).sr = v.sr := rfl
@[simp] theorem srSubCounter_acr (v : Device) : (srSubCounter v).acr = v.acr := rfl
@[simp] theorem srSubCounter_pcr (v : Device) : (srSubCounter v).pcr = v.pcr := rfl
@[simp] theorem srSubCounter_ifr (v : Device) : (srSubCounter v).ifr = v.ifr := rfl
@[simp] theorem srSubCounter_ier (v : Device) : (srSubCounter v).ier = v.ier := rfl
@[simp] theorem srSubCounter_pb7 (v : Device) : (srSubCounter v).pb7 = v.pb7 := rfl
@[simp] theorem srSubCounter_ira (v : Device) : (srSubCounter v).ira = v.ira := rfl
@[simp] theorem srSubCounter_irb (v : Device) : (srSubCounter v).irb = v.irb := rfl
@[simp] theorem srSubCounter_iraLatch (v : Device) : (srSubCounter v).iraLatch = v.iraLatch := rfl
@[simp] theorem srSubCounter_irbLatch (v : Device) : (srSubCounter v).irbLatch = v.irbLatch := rfl
@[simp] theorem srSubCounter_t1 (v : Device) : (srSubCounter v).t1 = v.t1 := rfl
@[simp] theorem srSubCounter_t2 (v : Device) : (srSubCounter v).t2 = v.t2 := rfl
@[simp] theorem srSubCounter_ca1State (v : Device) : (srSubCounter v).ca1State = v.ca1State := rfl
@[simp] theorem srSubCounter_ca2State (v : Device) : (srSubCounter v).ca2State = v.ca2State := rfl
@[simp] theorem srSubCounter_cb1State (v : Device) : (srSubCounter v).cb1State = v.cb1State := rfl
@[simp] theorem srSubCounter_cb1StateSr (v : Device) : (srSubCounter v).cb1StateSr = v.cb1StateSr := rfl
@[simp] theorem srSubCounter_cb2State (v : Device) : (srSubCounter v).cb2State = v.cb2State := rfl
@[simp] theorem srSubCounter_cb2StateSr (v : Device) : (srSubCounter v).cb2StateSr = v.cb2StateSr := rfl
@[simp] theorem srSubCounter_clk (v : Device) : (srSubCounter v).clk = v.clk := rfl

/-! ### pulseRestore: The pulse restore writes the two lines alone (44_port_io_handshake.md R200). -/

@[simp] theorem pulseRestore_ora (c : Config) (v : Device) : (pulseRestore c v).ora = v.ora := rfl
@[simp] theorem pulseRestore_orb (c : Config) (v : Device) : (pulseRestore c v).orb = v.orb := rfl
@[simp] theorem pulseRestore_ddra (c : Config) (v : Device) : (pulseRestore c v).ddra = v.ddra := rfl
@[simp] theorem pulseRestore_ddrb (c : Config) (v : Device) : (pulseRestore c v).ddrb = v.ddrb := rfl
@[simp] theorem pulseRestore_t1ll (c : Config) (v : Device) : (pulseRestore c v).t1ll = v.t1ll := rfl
@[simp] theorem pulseRestore_t1lh (c : Config) (v : Device) : (pulseRestore c v).t1lh = v.t1lh := rfl
@[simp] theorem pulseRestore_t2cl (c : Config) (v : Device) : (pulseRestore c v).t2cl = v.t2cl := rfl
@[simp] theorem pulseRestore_t2ch (c : Config) (v : Device) : (pulseRestore c v).t2ch = v.t2ch := rfl
@[simp] theorem pulseRestore_sr (c : Config) (v : Device) : (pulseRestore c v).sr = v.sr := rfl
@[simp] theorem pulseRestore_acr (c : Config) (v : Device) : (pulseRestore c v).acr = v.acr := rfl
@[simp] theorem pulseRestore_pcr (c : Config) (v : Device) : (pulseRestore c v).pcr = v.pcr := rfl
@[simp] theorem pulseRestore_ifr (c : Config) (v : Device) : (pulseRestore c v).ifr = v.ifr := rfl
@[simp] theorem pulseRestore_ier (c : Config) (v : Device) : (pulseRestore c v).ier = v.ier := rfl
@[simp] theorem pulseRestore_pb7 (c : Config) (v : Device) : (pulseRestore c v).pb7 = v.pb7 := rfl
@[simp] theorem pulseRestore_ira (c : Config) (v : Device) : (pulseRestore c v).ira = v.ira := rfl
@[simp] theorem pulseRestore_irb (c : Config) (v : Device) : (pulseRestore c v).irb = v.irb := rfl
@[simp] theorem pulseRestore_iraLatch (c : Config) (v : Device) : (pulseRestore c v).iraLatch = v.iraLatch := rfl
@[simp] theorem pulseRestore_irbLatch (c : Config) (v : Device) : (pulseRestore c v).irbLatch = v.irbLatch := rfl
@[simp] theorem pulseRestore_t1 (c : Config) (v : Device) : (pulseRestore c v).t1 = v.t1 := rfl
@[simp] theorem pulseRestore_t2 (c : Config) (v : Device) : (pulseRestore c v).t2 = v.t2 := rfl
@[simp] theorem pulseRestore_shift (c : Config) (v : Device) : (pulseRestore c v).shift = v.shift := rfl
@[simp] theorem pulseRestore_ca1State (c : Config) (v : Device) : (pulseRestore c v).ca1State = v.ca1State := rfl
@[simp] theorem pulseRestore_cb1State (c : Config) (v : Device) : (pulseRestore c v).cb1State = v.cb1State := rfl
@[simp] theorem pulseRestore_cb1StateSr (c : Config) (v : Device) : (pulseRestore c v).cb1StateSr = v.cb1StateSr := rfl
@[simp] theorem pulseRestore_cb2StateSr (c : Config) (v : Device) : (pulseRestore c v).cb2StateSr = v.cb2StateSr := rfl
@[simp] theorem pulseRestore_clk (c : Config) (v : Device) : (pulseRestore c v).clk = v.clk := rfl

/-! ### The fields that the updates write -/

@[simp] theorem setIfr_ifr_true (m : Byte) (v : Device) : (setIfr m true v).ifr = v.ifr ||| low7 m := rfl

@[simp] theorem setIfr_ifr_false (m : Byte) (v : Device) : (setIfr m false v).ifr = v.ifr &&& ~~~ low7 m := rfl

theorem setIer_ier (d : Byte) (v : Device) :
    (setIer d v).ier = if d.getLsbD 7 then v.ier ||| low7 d else v.ier &&& ~~~ low7 d := rfl

theorem setPb7_pb7 (c : Config) (l : Byte) (v : Device) :
    (setPb7 c l v).pb7 = if c.pb7Control v.acr then l else v.pb7 := rfl

theorem accessCa2_ca2State (c : Config) (l : Bool) (v : Device) :
    (accessCa2 c l v).ca2State = if c.movesOnAccess (c.ca2Mode v.pcr) then l else v.ca2State := rfl

theorem accessCb2_cb2State (c : Config) (l : Bool) (v : Device) :
    (accessCb2 c l v).cb2State = if c.movesOnAccess (c.cb2Mode v.pcr) then l else v.cb2State := rfl

@[simp] theorem srSubCounter_shift_enabled (v : Device) : (srSubCounter v).shift.enabled = v.shift.enabled := rfl

@[simp] theorem srSubCounter_shift_shifted (v : Device) : (srSubCounter v).shift.shifted = v.shift.shifted := rfl

theorem srSubCounter_shift_counter (v : Device) :
    (srSubCounter v).shift.counter = if v.shift.counter = 0x00 then v.t2cl else v.shift.counter - 1 := rfl

theorem pulseRestore_ca2State (c : Config) (v : Device) :
    (pulseRestore c v).ca2State = if c.ca2Mode v.pcr = .pulseOutput then true else v.ca2State := rfl

theorem pulseRestore_cb2State (c : Config) (v : Device) :
    (pulseRestore c v).cb2State = if c.cb2Mode v.pcr = .pulseOutput then true else v.cb2State := rfl

end Sys2Proof.Machine
end

