-- ==== Sys2Proof/Laws/Ops.lean ====
section
/-! SUPPORT. The shared operations: ending an operation, and what evaluating a port leaves in the environment. -/

namespace Sys2Proof.Machine

@[simp] theorem finish_next (s t : State) (v : Device) :
    finish s v = .next t ↔ t = { s with dev := v, result := .nothing } := by
  simp [finish, eq_comm]

@[simp] theorem reply_next (s t : State) (v : Device) (e : Env) (r : Result) :
    reply s v e r = .next t ↔ t = { s with dev := v, env := e, result := r } := by
  simp [reply, eq_comm]

@[simp] theorem replyByte_next (s t : State) (v : Device) (b : Byte) :
    replyByte s v b = .next t ↔ t = { s with dev := v, result := .byte b } := by
  simp [replyByte]

/-- Without a port-A callback the input is 0x00 and nothing is called (44_port_io_handshake.md R191). -/
theorem portAIn_absent (v : Device) (e : Env) (h : e.portACb = none) : portAIn v e = (0x00, e) := by
  simp [portAIn, h]

/-- Without a port-B callback the input is 0x00 and nothing is called (R193). -/
theorem portBIn_absent (v : Device) (e : Env) (h : e.portBCb = none) : portBIn v e = (0x00, e) := by
  simp [portBIn, h]

/-- Evaluating port A changes the port-A draws and the calls alone. -/
theorem portAIn_frame (v : Device) (e : Env) :
    (portAIn v e).2 = { e with drawsA := (portAIn v e).2.drawsA, calls := (portAIn v e).2.calls } := by
  unfold portAIn
  split <;> rfl

/-- Evaluating port B changes the port-B draws and the calls alone. -/
theorem portBIn_frame (v : Device) (e : Env) :
    (portBIn v e).2 = { e with drawsB := (portBIn v e).2.drawsB, calls := (portBIn v e).2.calls } := by
  unfold portBIn
  split <;> rfl

/-- The port-A input depends on the mask, the output register, the registration and the port-A draws alone. -/
theorem portAIn_congr (v w : Device) (e f : Env) (hd : v.ddra = w.ddra) (ho : v.ora = w.ora)
    (hc : e.portACb = f.portACb) (hn : e.drawsA = f.drawsA) : (portAIn v e).1 = (portAIn w f).1 := by
  unfold portAIn
  rw [hc, hd, ho, hn]
  split <;> rfl

end Sys2Proof.Machine
end

