-- ==== Sys2Proof/Laws/Shift.lean ====
section
/-! SUPPORT. What the shift register's steps can do, said once (43_shift_register.md R174 to R181). -/

namespace Sys2Proof.Machine

/-- One bit shifted writes `SR` and `cb2_state_sr` alone (R178). -/
theorem srShiftOneBit_frame (c : Config) (v : Device) :
    srShiftOneBit c v = { v with sr := (srShiftOneBit c v).sr, cb2StateSr := (srShiftOneBit c v).cb2StateSr } := by
  unfold srShiftOneBit
  split <;> rfl

/-- Everything an update can do (R177, R178, R179): nothing; one bit moved and counted; the eighth bit, with the flag
set and shifting stopped. -/
theorem srUpdate_cases (c : Config) (l : Bool) (v : Device) :
    ((v.shift.enabled = false ∨ c.shiftsOn l = false) ∧ srUpdate c l v = v) ∨
    (v.shift.enabled = true ∧ c.shiftsOn l = true ∧ v.shift.shifted ≠ 7 ∧
      srUpdate c l v = { v with
        sr := (srShiftOneBit c v).sr, cb2StateSr := (srShiftOneBit c v).cb2StateSr
        shift := { v.shift with shifted := v.shift.shifted + 1 } }) ∨
    (v.shift.enabled = true ∧ c.shiftsOn l = true ∧ v.shift.shifted = 7 ∧
      srUpdate c l v = { v with
        sr := (srShiftOneBit c v).sr, cb2StateSr := (srShiftOneBit c v).cb2StateSr
        shift := { v.shift with shifted := 8, enabled := false }, ifr := v.ifr ||| low7 c.srInt }) := by
  have hs := srShiftOneBit_frame c v
  have hsh : (srShiftOneBit c v).shift = v.shift := by rw [hs]
  cases he : v.shift.enabled
  · exact .inl ⟨.inl rfl, by simp [srUpdate, he]⟩
  · cases ho : c.shiftsOn l
    · exact .inl ⟨.inr rfl, by simp [srUpdate, ho]⟩
    · by_cases h7 : v.shift.shifted = 7
      · refine .inr (.inr ⟨rfl, rfl, h7, ?_⟩)
        simp only [srUpdate, he, ho, hsh, h7, srComplete, setIfr]
        rw [hs]
        simp
      · refine .inr (.inl ⟨rfl, rfl, h7, ?_⟩)
        have h8 : ¬ v.shift.shifted + 1 = 8 := by omega
        simp only [srUpdate, he, ho, hsh, h8]
        rw [hs]
        simp

/-- An update writes `SR`, `cb2_state_sr`, the unit record and the flags alone. -/
theorem srUpdate_frame (c : Config) (l : Bool) (v : Device) :
    srUpdate c l v = { v with
      sr := (srUpdate c l v).sr, cb2StateSr := (srUpdate c l v).cb2StateSr
      shift := (srUpdate c l v).shift, ifr := (srUpdate c l v).ifr } := by
  rcases srUpdate_cases c l v with ⟨_, h⟩ | ⟨_, _, _, h⟩ | ⟨_, _, _, h⟩ <;> rw [h]

/-- The shift clock writes, beside what an update writes, `cb1_state_sr` alone. -/
theorem srClock_frame (c : Config) (v : Device) :
    srClock c v = { v with
      sr := (srClock c v).sr, cb2StateSr := (srClock c v).cb2StateSr, cb1StateSr := (srClock c v).cb1StateSr
      shift := (srClock c v).shift, ifr := (srClock c v).ifr } := by
  unfold srClock
  split
  · simp only []
    rw [srUpdate_frame]
  · rfl

@[simp] theorem srClock_ora (c : Config) (v : Device) : (srClock c v).ora = v.ora := by rw [srClock_frame]
@[simp] theorem srClock_orb (c : Config) (v : Device) : (srClock c v).orb = v.orb := by rw [srClock_frame]
@[simp] theorem srClock_ddra (c : Config) (v : Device) : (srClock c v).ddra = v.ddra := by rw [srClock_frame]
@[simp] theorem srClock_ddrb (c : Config) (v : Device) : (srClock c v).ddrb = v.ddrb := by rw [srClock_frame]
@[simp] theorem srClock_t1ll (c : Config) (v : Device) : (srClock c v).t1ll = v.t1ll := by rw [srClock_frame]
@[simp] theorem srClock_t1lh (c : Config) (v : Device) : (srClock c v).t1lh = v.t1lh := by rw [srClock_frame]
@[simp] theorem srClock_t2cl (c : Config) (v : Device) : (srClock c v).t2cl = v.t2cl := by rw [srClock_frame]
@[simp] theorem srClock_t2ch (c : Config) (v : Device) : (srClock c v).t2ch = v.t2ch := by rw [srClock_frame]
@[simp] theorem srClock_acr (c : Config) (v : Device) : (srClock c v).acr = v.acr := by rw [srClock_frame]
@[simp] theorem srClock_pcr (c : Config) (v : Device) : (srClock c v).pcr = v.pcr := by rw [srClock_frame]
@[simp] theorem srClock_ier (c : Config) (v : Device) : (srClock c v).ier = v.ier := by rw [srClock_frame]
@[simp] theorem srClock_pb7 (c : Config) (v : Device) : (srClock c v).pb7 = v.pb7 := by rw [srClock_frame]
@[simp] theorem srClock_ira (c : Config) (v : Device) : (srClock c v).ira = v.ira := by rw [srClock_frame]
@[simp] theorem srClock_irb (c : Config) (v : Device) : (srClock c v).irb = v.irb := by rw [srClock_frame]
@[simp] theorem srClock_iraLatch (c : Config) (v : Device) : (srClock c v).iraLatch = v.iraLatch := by rw [srClock_frame]
@[simp] theorem srClock_irbLatch (c : Config) (v : Device) : (srClock c v).irbLatch = v.irbLatch := by rw [srClock_frame]
@[simp] theorem srClock_t1 (c : Config) (v : Device) : (srClock c v).t1 = v.t1 := by rw [srClock_frame]
@[simp] theorem srClock_t2 (c : Config) (v : Device) : (srClock c v).t2 = v.t2 := by rw [srClock_frame]
@[simp] theorem srClock_ca1State (c : Config) (v : Device) : (srClock c v).ca1State = v.ca1State := by rw [srClock_frame]
@[simp] theorem srClock_ca2State (c : Config) (v : Device) : (srClock c v).ca2State = v.ca2State := by rw [srClock_frame]
@[simp] theorem srClock_cb1State (c : Config) (v : Device) : (srClock c v).cb1State = v.cb1State := by rw [srClock_frame]
@[simp] theorem srClock_cb2State (c : Config) (v : Device) : (srClock c v).cb2State = v.cb2State := by rw [srClock_frame]
@[simp] theorem srClock_clk (c : Config) (v : Device) : (srClock c v).clk = v.clk := by rw [srClock_frame]

/-- No update writes `sr.counter`. -/
@[simp] theorem srUpdate_shift_counter (c : Config) (l : Bool) (v : Device) :
    (srUpdate c l v).shift.counter = v.shift.counter := by
  rcases srUpdate_cases c l v with ⟨_, h⟩ | ⟨_, _, _, h⟩ | ⟨_, _, _, h⟩ <;> rw [h]

/-- The shift clock does not write `sr.counter`. -/
@[simp] theorem srClock_shift_counter (c : Config) (v : Device) :
    (srClock c v).shift.counter = v.shift.counter := by
  unfold srClock
  split <;> simp

/-- The shift-register-driven CB1 value toggles exactly when the shift clock ticks (R174). -/
theorem srClock_cb1StateSr (c : Config) (v : Device) :
    (srClock c v).cb1StateSr = if srClockTicks c v then !v.cb1StateSr else v.cb1StateSr := by
  unfold srClock
  split
  · simp only []
    rw [srUpdate_frame]
  · rfl

end Sys2Proof.Machine
end

