-- ==== Sys2Proof/Laws/Timers.lean ====
section
/-! SUPPORT. What each timer step can do, said once (42_execute_timers.md R151 to R157). -/

namespace Sys2Proof.Machine

/-- Everything a Timer 1 step can do (R151, R153, R154). -/
theorem t1Step_cases (c : Config) (v : Device) :
    (v.t1.enabled = false ∧ t1Step c v = v) ∨
    (v.t1.enabled = true ∧ v.t1.counter ≠ 0#16 ∧
      t1Step c v = { v with t1 := { v.t1 with counter := v.t1.counter - 1 } }) ∨
    (v.t1.enabled = true ∧ v.t1.counter = 0#16 ∧ c.t1IsContinuous v.acr = true ∧
      t1Step c v = { v with
        t1 := { v.t1 with counter := pairBytes v.t1lh v.t1ll }
        pb7 := if c.pb7Control v.acr then v.pb7 ^^^ 0x80 else v.pb7
        ifr := v.ifr ||| low7 c.t1Int }) ∨
    (v.t1.enabled = true ∧ v.t1.counter = 0#16 ∧ c.t1IsContinuous v.acr = false ∧ v.t1.oneShot = true ∧
      t1Step c v = { v with t1 := { v.t1 with counter := v.t1.counter - 1 } }) ∨
    (v.t1.enabled = true ∧ v.t1.counter = 0#16 ∧ c.t1IsContinuous v.acr = false ∧ v.t1.oneShot = false ∧
      t1Step c v = { v with
        t1 := { v.t1 with counter := v.t1.counter - 1, oneShot := true }
        pb7 := if c.pb7Control v.acr then 0x80 else v.pb7
        ifr := v.ifr ||| low7 c.t1Int }) := by
  unfold t1Step
  cases he : v.t1.enabled
  · exact .inl ⟨rfl, by simp⟩
  · by_cases hc : v.t1.counter = 0#16
    · cases hm : c.t1IsContinuous v.acr
      · cases ho : v.t1.oneShot
        · exact .inr (.inr (.inr (.inr ⟨rfl, hc, rfl, rfl, by simp [hc, ho, t1OneShotWrap, setPb7, setIfr]⟩)))
        · exact .inr (.inr (.inr (.inl ⟨rfl, hc, rfl, rfl, by simp [hc, ho, t1OneShotWrap]⟩)))
      · exact .inr (.inr (.inl ⟨rfl, hc, rfl, by simp [hc, t1ContinuousWrap, setPb7, setIfr]⟩))
    · exact .inr (.inl ⟨rfl, hc, by simp [hc]⟩)

/-- Everything a Timer 2 step can do (R156, R157). -/
theorem t2Step_cases (c : Config) (v : Device) :
    ((v.t2.enabled = false ∨ c.t2CountsPulses v.acr = true) ∧ t2Step c v = v) ∨
    (v.t2.enabled = true ∧ c.t2CountsPulses v.acr = false ∧ (v.t2.counter ≠ 0#16 ∨ v.t2.oneShot = true) ∧
      t2Step c v = { v with t2 := { v.t2 with counter := v.t2.counter - 1 } }) ∨
    (v.t2.enabled = true ∧ c.t2CountsPulses v.acr = false ∧ v.t2.counter = 0#16 ∧ v.t2.oneShot = false ∧
      t2Step c v = { v with
        t2 := { v.t2 with counter := v.t2.counter - 1, oneShot := true }
        ifr := v.ifr ||| low7 c.t2Int }) := by
  unfold t2Step
  cases he : v.t2.enabled
  · exact .inl ⟨.inl rfl, by simp⟩
  · cases hp : c.t2CountsPulses v.acr
    · by_cases hc : v.t2.counter = 0#16
      · cases ho : v.t2.oneShot
        · exact .inr (.inr ⟨rfl, rfl, hc, rfl, by simp [hc, ho, setIfr]⟩)
        · exact .inr (.inl ⟨rfl, rfl, .inr rfl, by simp [ho]⟩)
      · exact .inr (.inl ⟨rfl, rfl, .inl hc, by simp [hc]⟩)
    · exact .inl ⟨.inr rfl, by simp⟩

/-- A Timer 1 step writes `t1`, `PB7` and the flags alone. -/
theorem t1Step_frame (c : Config) (v : Device) :
    t1Step c v = { v with t1 := (t1Step c v).t1, pb7 := (t1Step c v).pb7, ifr := (t1Step c v).ifr } := by
  rcases t1Step_cases c v with ⟨_, h⟩ | ⟨_, _, h⟩ | ⟨_, _, _, h⟩ | ⟨_, _, _, _, h⟩ | ⟨_, _, _, _, h⟩ <;> rw [h]

/-- A Timer 2 step writes `t2` and the flags alone. -/
theorem t2Step_frame (c : Config) (v : Device) :
    t2Step c v = { v with t2 := (t2Step c v).t2, ifr := (t2Step c v).ifr } := by
  rcases t2Step_cases c v with ⟨_, h⟩ | ⟨_, _, _, h⟩ | ⟨_, _, _, _, h⟩ <;> rw [h]

@[simp] theorem t1Step_ora (c : Config) (v : Device) : (t1Step c v).ora = v.ora := by rw [t1Step_frame]
@[simp] theorem t1Step_orb (c : Config) (v : Device) : (t1Step c v).orb = v.orb := by rw [t1Step_frame]
@[simp] theorem t1Step_ddra (c : Config) (v : Device) : (t1Step c v).ddra = v.ddra := by rw [t1Step_frame]
@[simp] theorem t1Step_ddrb (c : Config) (v : Device) : (t1Step c v).ddrb = v.ddrb := by rw [t1Step_frame]
@[simp] theorem t1Step_t1ll (c : Config) (v : Device) : (t1Step c v).t1ll = v.t1ll := by rw [t1Step_frame]
@[simp] theorem t1Step_t1lh (c : Config) (v : Device) : (t1Step c v).t1lh = v.t1lh := by rw [t1Step_frame]
@[simp] theorem t1Step_t2cl (c : Config) (v : Device) : (t1Step c v).t2cl = v.t2cl := by rw [t1Step_frame]
@[simp] theorem t1Step_t2ch (c : Config) (v : Device) : (t1Step c v).t2ch = v.t2ch := by rw [t1Step_frame]
@[simp] theorem t1Step_sr (c : Config) (v : Device) : (t1Step c v).sr = v.sr := by rw [t1Step_frame]
@[simp] theorem t1Step_acr (c : Config) (v : Device) : (t1Step c v).acr = v.acr := by rw [t1Step_frame]
@[simp] theorem t1Step_pcr (c : Config) (v : Device) : (t1Step c v).pcr = v.pcr := by rw [t1Step_frame]
@[simp] theorem t1Step_ier (c : Config) (v : Device) : (t1Step c v).ier = v.ier := by rw [t1Step_frame]
@[simp] theorem t1Step_ira (c : Config) (v : Device) : (t1Step c v).ira = v.ira := by rw [t1Step_frame]
@[simp] theorem t1Step_irb (c : Config) (v : Device) : (t1Step c v).irb = v.irb := by rw [t1Step_frame]
@[simp] theorem t1Step_iraLatch (c : Config) (v : Device) : (t1Step c v).iraLatch = v.iraLatch := by rw [t1Step_frame]
@[simp] theorem t1Step_irbLatch (c : Config) (v : Device) : (t1Step c v).irbLatch = v.irbLatch := by rw [t1Step_frame]
@[simp] theorem t1Step_t2 (c : Config) (v : Device) : (t1Step c v).t2 = v.t2 := by rw [t1Step_frame]
@[simp] theorem t1Step_shift (c : Config) (v : Device) : (t1Step c v).shift = v.shift := by rw [t1Step_frame]
@[simp] theorem t1Step_ca1State (c : Config) (v : Device) : (t1Step c v).ca1State = v.ca1State := by rw [t1Step_frame]
@[simp] theorem t1Step_ca2State (c : Config) (v : Device) : (t1Step c v).ca2State = v.ca2State := by rw [t1Step_frame]
@[simp] theorem t1Step_cb1State (c : Config) (v : Device) : (t1Step c v).cb1State = v.cb1State := by rw [t1Step_frame]
@[simp] theorem t1Step_cb1StateSr (c : Config) (v : Device) : (t1Step c v).cb1StateSr = v.cb1StateSr := by rw [t1Step_frame]
@[simp] theorem t1Step_cb2State (c : Config) (v : Device) : (t1Step c v).cb2State = v.cb2State := by rw [t1Step_frame]
@[simp] theorem t1Step_cb2StateSr (c : Config) (v : Device) : (t1Step c v).cb2StateSr = v.cb2StateSr := by rw [t1Step_frame]
@[simp] theorem t1Step_clk (c : Config) (v : Device) : (t1Step c v).clk = v.clk := by rw [t1Step_frame]

@[simp] theorem t2Step_ora (c : Config) (v : Device) : (t2Step c v).ora = v.ora := by rw [t2Step_frame]
@[simp] theorem t2Step_orb (c : Config) (v : Device) : (t2Step c v).orb = v.orb := by rw [t2Step_frame]
@[simp] theorem t2Step_ddra (c : Config) (v : Device) : (t2Step c v).ddra = v.ddra := by rw [t2Step_frame]
@[simp] theorem t2Step_ddrb (c : Config) (v : Device) : (t2Step c v).ddrb = v.ddrb := by rw [t2Step_frame]
@[simp] theorem t2Step_t1ll (c : Config) (v : Device) : (t2Step c v).t1ll = v.t1ll := by rw [t2Step_frame]
@[simp] theorem t2Step_t1lh (c : Config) (v : Device) : (t2Step c v).t1lh = v.t1lh := by rw [t2Step_frame]
@[simp] theorem t2Step_t2cl (c : Config) (v : Device) : (t2Step c v).t2cl = v.t2cl := by rw [t2Step_frame]
@[simp] theorem t2Step_t2ch (c : Config) (v : Device) : (t2Step c v).t2ch = v.t2ch := by rw [t2Step_frame]
@[simp] theorem t2Step_sr (c : Config) (v : Device) : (t2Step c v).sr = v.sr := by rw [t2Step_frame]
@[simp] theorem t2Step_acr (c : Config) (v : Device) : (t2Step c v).acr = v.acr := by rw [t2Step_frame]
@[simp] theorem t2Step_pcr (c : Config) (v : Device) : (t2Step c v).pcr = v.pcr := by rw [t2Step_frame]
@[simp] theorem t2Step_ier (c : Config) (v : Device) : (t2Step c v).ier = v.ier := by rw [t2Step_frame]
@[simp] theorem t2Step_pb7 (c : Config) (v : Device) : (t2Step c v).pb7 = v.pb7 := by rw [t2Step_frame]
@[simp] theorem t2Step_ira (c : Config) (v : Device) : (t2Step c v).ira = v.ira := by rw [t2Step_frame]
@[simp] theorem t2Step_irb (c : Config) (v : Device) : (t2Step c v).irb = v.irb := by rw [t2Step_frame]
@[simp] theorem t2Step_iraLatch (c : Config) (v : Device) : (t2Step c v).iraLatch = v.iraLatch := by rw [t2Step_frame]
@[simp] theorem t2Step_irbLatch (c : Config) (v : Device) : (t2Step c v).irbLatch = v.irbLatch := by rw [t2Step_frame]
@[simp] theorem t2Step_t1 (c : Config) (v : Device) : (t2Step c v).t1 = v.t1 := by rw [t2Step_frame]
@[simp] theorem t2Step_shift (c : Config) (v : Device) : (t2Step c v).shift = v.shift := by rw [t2Step_frame]
@[simp] theorem t2Step_ca1State (c : Config) (v : Device) : (t2Step c v).ca1State = v.ca1State := by rw [t2Step_frame]
@[simp] theorem t2Step_ca2State (c : Config) (v : Device) : (t2Step c v).ca2State = v.ca2State := by rw [t2Step_frame]
@[simp] theorem t2Step_cb1State (c : Config) (v : Device) : (t2Step c v).cb1State = v.cb1State := by rw [t2Step_frame]
@[simp] theorem t2Step_cb1StateSr (c : Config) (v : Device) : (t2Step c v).cb1StateSr = v.cb1StateSr := by rw [t2Step_frame]
@[simp] theorem t2Step_cb2State (c : Config) (v : Device) : (t2Step c v).cb2State = v.cb2State := by rw [t2Step_frame]
@[simp] theorem t2Step_cb2StateSr (c : Config) (v : Device) : (t2Step c v).cb2StateSr = v.cb2StateSr := by rw [t2Step_frame]
@[simp] theorem t2Step_clk (c : Config) (v : Device) : (t2Step c v).clk = v.clk := by rw [t2Step_frame]

end Sys2Proof.Machine
end

