-- ==== Sys2Proof/Laws/Execute.lean ====
section
/-! SUPPORT. EXECUTE's effect on the device, field by field, in terms of its parts (42_execute_timers.md R150), and what
its observer call leaves in the environment (44_port_io_handshake.md R204). -/

namespace Sys2Proof.Machine

/-! ### The elements that EXECUTE does not write -/

@[simp] theorem executeDevice_ora (c : Config) (v : Device) : (executeDevice c v).ora = v.ora := by
  simp [executeDevice, deviceAtObserve]

@[simp] theorem executeDevice_orb (c : Config) (v : Device) : (executeDevice c v).orb = v.orb := by
  simp [executeDevice, deviceAtObserve]

@[simp] theorem executeDevice_ddra (c : Config) (v : Device) : (executeDevice c v).ddra = v.ddra := by
  simp [executeDevice, deviceAtObserve]

@[simp] theorem executeDevice_ddrb (c : Config) (v : Device) : (executeDevice c v).ddrb = v.ddrb := by
  simp [executeDevice, deviceAtObserve]

@[simp] theorem executeDevice_t1ll (c : Config) (v : Device) : (executeDevice c v).t1ll = v.t1ll := by
  simp [executeDevice, deviceAtObserve]

@[simp] theorem executeDevice_t1lh (c : Config) (v : Device) : (executeDevice c v).t1lh = v.t1lh := by
  simp [executeDevice, deviceAtObserve]

@[simp] theorem executeDevice_t2cl (c : Config) (v : Device) : (executeDevice c v).t2cl = v.t2cl := by
  simp [executeDevice, deviceAtObserve]

@[simp] theorem executeDevice_t2ch (c : Config) (v : Device) : (executeDevice c v).t2ch = v.t2ch := by
  simp [executeDevice, deviceAtObserve]

@[simp] theorem executeDevice_acr (c : Config) (v : Device) : (executeDevice c v).acr = v.acr := by
  simp [executeDevice, deviceAtObserve]

@[simp] theorem executeDevice_pcr (c : Config) (v : Device) : (executeDevice c v).pcr = v.pcr := by
  simp [executeDevice, deviceAtObserve]

@[simp] theorem executeDevice_ier (c : Config) (v : Device) : (executeDevice c v).ier = v.ier := by
  simp [executeDevice, deviceAtObserve]

@[simp] theorem executeDevice_ira (c : Config) (v : Device) : (executeDevice c v).ira = v.ira := by
  simp [executeDevice, deviceAtObserve]

@[simp] theorem executeDevice_irb (c : Config) (v : Device) : (executeDevice c v).irb = v.irb := by
  simp [executeDevice, deviceAtObserve]

@[simp] theorem executeDevice_iraLatch (c : Config) (v : Device) : (executeDevice c v).iraLatch = v.iraLatch := by
  simp [executeDevice, deviceAtObserve]

@[simp] theorem executeDevice_irbLatch (c : Config) (v : Device) : (executeDevice c v).irbLatch = v.irbLatch := by
  simp [executeDevice, deviceAtObserve]

@[simp] theorem executeDevice_ca1State (c : Config) (v : Device) : (executeDevice c v).ca1State = v.ca1State := by
  simp [executeDevice, deviceAtObserve]

@[simp] theorem executeDevice_cb1State (c : Config) (v : Device) : (executeDevice c v).cb1State = v.cb1State := by
  simp [executeDevice, deviceAtObserve]

/-! ### The elements that it writes -/

/-- Timer 2's step does not see Timer 1's (R150: their order is not observable). -/
theorem t2Step_t1Step_t2 (c : Config) (v : Device) : (t2Step c (t1Step c v)).t2 = (t2Step c v).t2 := by
  rcases t2Step_cases c (t1Step c v) with ⟨h, e⟩ | ⟨h1, h2, h3, e⟩ | ⟨h1, h2, h3, h4, e⟩ <;>
    rcases t2Step_cases c v with ⟨g, d⟩ | ⟨g1, g2, g3, d⟩ | ⟨g1, g2, g3, g4, d⟩ <;> rw [e, d] <;> simp_all

theorem executeDevice_t1 (c : Config) (v : Device) : (executeDevice c v).t1 = (t1Step c v).t1 := by
  simp [executeDevice, deviceAtObserve]

theorem executeDevice_pb7 (c : Config) (v : Device) : (executeDevice c v).pb7 = (t1Step c v).pb7 := by
  simp [executeDevice, deviceAtObserve]

theorem executeDevice_t2 (c : Config) (v : Device) : (executeDevice c v).t2 = (t2Step c v).t2 := by
  simp [executeDevice, deviceAtObserve, t2Step_t1Step_t2]

theorem executeDevice_clk (c : Config) (v : Device) : (executeDevice c v).clk = clkSucc c v.clk := by
  simp [executeDevice, deviceAtObserve]

theorem executeDevice_ca2State (c : Config) (v : Device) :
    (executeDevice c v).ca2State = if c.ca2Mode v.pcr = .pulseOutput then true else v.ca2State := by
  simp [executeDevice, deviceAtObserve, pulseRestore_ca2State]

theorem executeDevice_cb2State (c : Config) (v : Device) :
    (executeDevice c v).cb2State = if c.cb2Mode v.pcr = .pulseOutput then true else v.cb2State := by
  simp [executeDevice, deviceAtObserve, pulseRestore_cb2State]

/-- The flags after EXECUTE are those after the shift clock. -/
theorem executeDevice_ifr (c : Config) (v : Device) :
    (executeDevice c v).ifr = (srClock c (t2Step c (t1Step c v))).ifr := by
  simp [executeDevice, deviceAtObserve]

theorem executeDevice_sr (c : Config) (v : Device) :
    (executeDevice c v).sr = (srClock c (t2Step c (t1Step c v))).sr := by
  simp [executeDevice, deviceAtObserve]

theorem executeDevice_cb1StateSr (c : Config) (v : Device) :
    (executeDevice c v).cb1StateSr = (srClock c (t2Step c (t1Step c v))).cb1StateSr := by
  simp [executeDevice, deviceAtObserve]

theorem executeDevice_cb2StateSr (c : Config) (v : Device) :
    (executeDevice c v).cb2StateSr = (srClock c (t2Step c (t1Step c v))).cb2StateSr := by
  simp [executeDevice, deviceAtObserve]

theorem executeDevice_shift_enabled (c : Config) (v : Device) :
    (executeDevice c v).shift.enabled = (srClock c (t2Step c (t1Step c v))).shift.enabled := by
  simp [executeDevice, deviceAtObserve]

theorem executeDevice_shift_shifted (c : Config) (v : Device) :
    (executeDevice c v).shift.shifted = (srClock c (t2Step c (t1Step c v))).shift.shifted := by
  simp [executeDevice, deviceAtObserve]

/-- The sub-counter after EXECUTE depends on itself and the stored `T2CL` alone (43_shift_register.md R181). -/
theorem executeDevice_shift_counter (c : Config) (v : Device) :
    (executeDevice c v).shift.counter = if v.shift.counter = 0x00 then v.t2cl else v.shift.counter - 1 := by
  simp [executeDevice, deviceAtObserve, srSubCounter_shift_counter]

/-! ### The observer call -/

/-- It leaves every registration, and the port-A draws, as they are. -/
theorem observe_frame (c : Config) (v : Device) (e : Env) :
    observe c v e = { e with drawsB := (observe c v e).drawsB, calls := (observe c v e).calls } := by
  unfold observe
  split
  · rfl
  · simp only [effB]
    rw [portBIn_frame]

/-- Without an observer nothing is called (R204). -/
theorem observe_absent (c : Config) (v : Device) (e : Env) (h : e.updateCb = none) : observe c v e = e := by
  simp [observe, h]

end Sys2Proof.Machine
end

