-- ==== Sys2Proof/Laws/Params.lean ====
section
/-! SUPPORT. The control-register fields at the default layouts: the bits and codes of 30_encoding.md R86 to R90. -/

namespace Sys2Proof

theorem pb7Control_default (c : Config) (h : c.acrLayout = AcrLayout.default) (acr : Byte) :
    c.pb7Control acr = acr.getLsbD 7 := by simp [Config.pb7Control, h, AcrLayout.default]

theorem t1IsContinuous_default (c : Config) (h : c.acrLayout = AcrLayout.default) (acr : Byte) :
    c.t1IsContinuous acr = acr.getLsbD 6 := by simp [Config.t1IsContinuous, h, AcrLayout.default]

theorem t2CountsPulses_default (c : Config) (h : c.acrLayout = AcrLayout.default) (acr : Byte) :
    c.t2CountsPulses acr = acr.getLsbD 5 := by simp [Config.t2CountsPulses, h, AcrLayout.default]

/-- `SR_MODE` as a table of its eight codes. -/
theorem srMode_default (c : Config) (h : c.acrLayout = AcrLayout.default) (acr : Byte) :
    c.srMode acr = AcrLayout.default.srModes[(acr.extractLsb' 2 3).toNat] := by
  simp [Config.srMode, h, AcrLayout.default, field3]

/-- Direction is `ACR[4]` (R90). -/
theorem shiftsOut_default (c : Config) (h : c.acrLayout = AcrLayout.default) (acr : Byte) :
    c.shiftsOut acr = acr.getLsbD 4 := by
  have hf : ∀ f : BitVec 3, (AcrLayout.default.srModes[f.toNat]).isOut = f.getLsbD 2 := by decide
  rw [Config.shiftsOut, srMode_default c h, hf]
  simp

/-- The mode of CA2 as a table of its eight codes (R87). -/
theorem ca2Mode_default (c : Config) (h : c.pcrLayout = PcrLayout.default) (pcr : Byte) :
    c.ca2Mode pcr = PcrLayout.default.lineModes[(pcr.extractLsb' 1 3).toNat] := by
  simp [Config.ca2Mode, h, PcrLayout.default, field3]

/-- The mode of CB2 as a table of its eight codes (R87). -/
theorem cb2Mode_default (c : Config) (h : c.pcrLayout = PcrLayout.default) (pcr : Byte) :
    c.cb2Mode pcr = PcrLayout.default.lineModes[(pcr.extractLsb' 5 3).toNat] := by
  simp [Config.cb2Mode, h, PcrLayout.default, field3]

/-- The three codes that the rules test, by name. -/
theorem lineMode_codes (f : BitVec 3) :
    (PcrLayout.default.lineModes[f.toNat] = .fixedLow ↔ f = 6) ∧
    (PcrLayout.default.lineModes[f.toNat] = .pulseOutput ↔ f = 5) ∧
    (PcrLayout.default.lineModes[f.toNat] = .handshakeOutput ↔ f = 4) := by
  revert f
  decide

theorem t1Int_default (c : Config) (h : c.ifrBits = FlagBits.default) : c.t1Int = 0x40 := by
  simp [Config.t1Int, h, FlagBits.default, flagMask]

theorem t2Int_default (c : Config) (h : c.ifrBits = FlagBits.default) : c.t2Int = 0x20 := by
  simp [Config.t2Int, h, FlagBits.default, flagMask]

theorem srInt_default (c : Config) (h : c.ifrBits = FlagBits.default) : c.srInt = 0x04 := by
  simp [Config.srInt, h, FlagBits.default, flagMask]

end Sys2Proof
end

