-- ==== Sys2Proof/Laws/PerInstr.lean ====
section
/-! SUPPORT. The family TableRow: the word that an operation encodes to belongs to its row of spec/opcode_table.json
(30_encoding.md R97: a word w belongs to a row when `w & mask == match`). -/

namespace Sys2Proof.Laws.TableRow

/-- A row's `match` and `mask`, as spec/opcode_table.json writes them. -/
def row : Instr → TraceWord × TraceWord
  | .wOrb _ => (0x0000, 0xFF00)
  | .wOra _ => (0x0100, 0xFF00)
  | .wDdrb _ => (0x0200, 0xFF00)
  | .wDdra _ => (0x0300, 0xFF00)
  | .wT1cl _ => (0x0400, 0xFF00)
  | .wT1ch _ => (0x0500, 0xFF00)
  | .wT1ll _ => (0x0600, 0xFF00)
  | .wT1lh _ => (0x0700, 0xFF00)
  | .wT2cl _ => (0x0800, 0xFF00)
  | .wT2ch _ => (0x0900, 0xFF00)
  | .wSr _ => (0x0A00, 0xFF00)
  | .wAcr _ => (0x0B00, 0xFF00)
  | .wPcr _ => (0x0C00, 0xFF00)
  | .wIfr _ => (0x0D00, 0xFF00)
  | .wIer _ => (0x0E00, 0xFF00)
  | .wOraNoHandshake _ => (0x0F00, 0xFF00)
  | .rOrb => (0x1000, 0xFF00)
  | .rOra => (0x1100, 0xFF00)
  | .rDdrb => (0x1200, 0xFF00)
  | .rDdra => (0x1300, 0xFF00)
  | .rT1cl => (0x1400, 0xFF00)
  | .rT1ch => (0x1500, 0xFF00)
  | .rT1ll => (0x1600, 0xFF00)
  | .rT1lh => (0x1700, 0xFF00)
  | .rT2cl => (0x1800, 0xFF00)
  | .rT2ch => (0x1900, 0xFF00)
  | .rSr => (0x1A00, 0xFF00)
  | .rAcr => (0x1B00, 0xFF00)
  | .rPcr => (0x1C00, 0xFF00)
  | .rIfr => (0x1D00, 0xFF00)
  | .rIer => (0x1E00, 0xFF00)
  | .rOraNoHandshake => (0x1F00, 0xFF00)
  | .execute => (0x2000, 0xF000)
  | .reset => (0x3000, 0xF000)
  | .getIrq => (0x4000, 0xF000)
  | .getRegState => (0x5000, 0xF000)
  | .getTimer1 => (0x6000, 0xF000)
  | .getTimer2 => (0x7000, 0xF000)
  | .getSr => (0x8000, 0xF000)
  | .setPaCb _ => (0x9000, 0xF000)
  | .setPbCb _ => (0xA000, 0xF000)
  | .setUpdCb _ => (0xB000, 0xF000)

/-- The operation's word belongs to its row. -/
abbrev Statement (i : Instr) : Prop := (encode RegMap.default i).word &&& (row i).2 = (row i).1

theorem wOrb (d : Byte) : Statement (.wOrb d) := (traceWord_and_FF00 _ _ d).trans rfl

theorem wOra (d : Byte) : Statement (.wOra d) := (traceWord_and_FF00 _ _ d).trans rfl

theorem wDdrb (d : Byte) : Statement (.wDdrb d) := (traceWord_and_FF00 _ _ d).trans rfl

theorem wDdra (d : Byte) : Statement (.wDdra d) := (traceWord_and_FF00 _ _ d).trans rfl

theorem wT1cl (d : Byte) : Statement (.wT1cl d) := (traceWord_and_FF00 _ _ d).trans rfl

theorem wT1ch (d : Byte) : Statement (.wT1ch d) := (traceWord_and_FF00 _ _ d).trans rfl

theorem wT1ll (d : Byte) : Statement (.wT1ll d) := (traceWord_and_FF00 _ _ d).trans rfl

theorem wT1lh (d : Byte) : Statement (.wT1lh d) := (traceWord_and_FF00 _ _ d).trans rfl

theorem wT2cl (d : Byte) : Statement (.wT2cl d) := (traceWord_and_FF00 _ _ d).trans rfl

theorem wT2ch (d : Byte) : Statement (.wT2ch d) := (traceWord_and_FF00 _ _ d).trans rfl

theorem wSr (d : Byte) : Statement (.wSr d) := (traceWord_and_FF00 _ _ d).trans rfl

theorem wAcr (d : Byte) : Statement (.wAcr d) := (traceWord_and_FF00 _ _ d).trans rfl

theorem wPcr (d : Byte) : Statement (.wPcr d) := (traceWord_and_FF00 _ _ d).trans rfl

theorem wIfr (d : Byte) : Statement (.wIfr d) := (traceWord_and_FF00 _ _ d).trans rfl

theorem wIer (d : Byte) : Statement (.wIer d) := (traceWord_and_FF00 _ _ d).trans rfl

theorem wOraNoHandshake (d : Byte) : Statement (.wOraNoHandshake d) := (traceWord_and_FF00 _ _ d).trans rfl

theorem rOrb : Statement .rOrb := by decide

theorem rOra : Statement .rOra := by decide

theorem rDdrb : Statement .rDdrb := by decide

theorem rDdra : Statement .rDdra := by decide

theorem rT1cl : Statement .rT1cl := by decide

theorem rT1ch : Statement .rT1ch := by decide

theorem rT1ll : Statement .rT1ll := by decide

theorem rT1lh : Statement .rT1lh := by decide

theorem rT2cl : Statement .rT2cl := by decide

theorem rT2ch : Statement .rT2ch := by decide

theorem rSr : Statement .rSr := by decide

theorem rAcr : Statement .rAcr := by decide

theorem rPcr : Statement .rPcr := by decide

theorem rIfr : Statement .rIfr := by decide

theorem rIer : Statement .rIer := by decide

theorem rOraNoHandshake : Statement .rOraNoHandshake := by decide

theorem execute : Statement .execute := by decide

theorem reset : Statement .reset := by decide

theorem getIrq : Statement .getIrq := by decide

theorem getRegState : Statement .getRegState := by decide

theorem getTimer1 : Statement .getTimer1 := by decide

theorem getTimer2 : Statement .getTimer2 := by decide

theorem getSr : Statement .getSr := by decide

theorem setPaCb (f : Option PortCallback) : Statement (.setPaCb f) := by
  show traceWord 9 0 0 &&& 0xF000 = 0x9000
  decide

theorem setPbCb (f : Option PortCallback) : Statement (.setPbCb f) := by
  show traceWord 10 0 0 &&& 0xF000 = 0xA000
  decide

theorem setUpdCb (f : Option SinkRef) : Statement (.setUpdCb f) := by
  show traceWord 11 0 0 &&& 0xF000 = 0xB000
  decide

end Sys2Proof.Laws.TableRow
end

