-- ==== Sys2Proof/Laws/Step.lean ====
section
/-! SUPPORT. What one step can do, said once. -/

namespace Sys2Proof.Machine

/-- If a step answers a next state, either nothing was issued and nothing changes, or the oldest issued operation ran in
the state in which it is no longer pending. -/
theorem step_cases (s t : State) (h : step s = .next t) :
    (s.pending = [] ∧ t = s) ∨
    ∃ o rest i, s.pending = o :: rest ∧ decode s.cfg.regmap o.word o.beside = .instr i ∧
      exec i { s with pending := rest } = .next t := by
  unfold step fetch at h
  cases hp : s.pending with
  | nil =>
    simp only [hp, Host.Outcome.next.injEq] at h
    exact .inl ⟨rfl, h.symm⟩
  | cons o rest =>
    cases hd : decode s.cfg.regmap o.word o.beside with
    | rejected e => simp [hp, hd] at h
    | instr i =>
      simp only [hp, hd] at h
      exact .inr ⟨o, rest, i, rfl, hd, h⟩

/-- `withFetchWord` issues one operation before every other and changes nothing else. -/
theorem withFetchWord_pending (s : State) (nbits w : Nat) :
    (s.withFetchWord nbits w).pending = issueOfTableWord nbits w :: s.pending := rfl

end Sys2Proof.Machine
end

