-- ==== Sys2Proof/Machine/TraceText.lean ====
section
/-! DEFINITION. The textual trace of 30_encoding.md R94 and R95: one operation or pseudo-operation a line, written out
and read back. The text is a convention of the spec, not of the device; nothing else depends on it (log 27). -/

namespace Sys2Proof.TraceText

/-- The named functions `<f>` that a text may use. -/
structure Names where
  ports : List (String × PortCallback)
  sinks : List (String × SinkRef)
deriving DecidableEq, Repr

/-- The slots in the order of R84. -/
def allSlots : List Slot := RegMap.default.slots.toList

/-- A slot's name (R84). -/
def slotName : Slot → String
  | .orb => "ORB" | .ora => "ORA" | .ddrb => "DDRB" | .ddra => "DDRA"
  | .t1cl => "T1CL" | .t1ch => "T1CH" | .t1ll => "T1LL" | .t1lh => "T1LH"
  | .t2cl => "T2CL" | .t2ch => "T2CH" | .sr => "SR" | .acr => "ACR"
  | .pcr => "PCR" | .ifr => "IFR" | .ier => "IER" | .oraNoHandshake => "ORA_NO_HANDSHAKE"

/-! ### Writing -/

/-- The digits in the order of their values, for writing and for reading. -/
def digits : List Char := "0123456789ABCDEF".toList

/-- One hexadecimal digit. -/
def hexDigit (n : Nat) : Char := digits.getD n '0'

/-- A byte as `0xhh`. -/
def byteText (b : Byte) : String := String.ofList ['0', 'x', hexDigit (b.toNat / 16), hexDigit (b.toNat % 16)]

/-- The name of an operand: `none`, or the first name the table gives it. -/
def operandText {α : Type} [DecidableEq α] (names : List (String × α)) : Option α → Option String
  | none => some "none"
  | some f => (names.find? (fun p => p.2 = f)).map (·.1)

/-- `W <slot>, <byte>`. -/
def writeText (sl : Slot) (d : Byte) : Option String := some ("W " ++ slotName sl ++ ", " ++ byteText d)

/-- `R <slot>`. -/
def readText (sl : Slot) : Option String := some ("R " ++ slotName sl)

/-- The line of an operation; `none` for a registration whose function has no name. -/
def lineOf (names : Names) : Instr → Option String
  | .wOrb d => writeText .orb d
  | .wOra d => writeText .ora d
  | .wDdrb d => writeText .ddrb d
  | .wDdra d => writeText .ddra d
  | .wT1cl d => writeText .t1cl d
  | .wT1ch d => writeText .t1ch d
  | .wT1ll d => writeText .t1ll d
  | .wT1lh d => writeText .t1lh d
  | .wT2cl d => writeText .t2cl d
  | .wT2ch d => writeText .t2ch d
  | .wSr d => writeText .sr d
  | .wAcr d => writeText .acr d
  | .wPcr d => writeText .pcr d
  | .wIfr d => writeText .ifr d
  | .wIer d => writeText .ier d
  | .wOraNoHandshake d => writeText .oraNoHandshake d
  | .rOrb => readText .orb
  | .rOra => readText .ora
  | .rDdrb => readText .ddrb
  | .rDdra => readText .ddra
  | .rT1cl => readText .t1cl
  | .rT1ch => readText .t1ch
  | .rT1ll => readText .t1ll
  | .rT1lh => readText .t1lh
  | .rT2cl => readText .t2cl
  | .rT2ch => readText .t2ch
  | .rSr => readText .sr
  | .rAcr => readText .acr
  | .rPcr => readText .pcr
  | .rIfr => readText .ifr
  | .rIer => readText .ier
  | .rOraNoHandshake => readText .oraNoHandshake
  | .execute => some "X"
  | .reset => some "RST"
  | .getIrq => some "IRQ?"
  | .getRegState => some "REGS?"
  | .getTimer1 => some "T1?"
  | .getTimer2 => some "T2?"
  | .getSr => some "SR?"
  | .setPaCb f => (operandText names.ports f).map ("PACB " ++ ·)
  | .setPbCb f => (operandText names.ports f).map ("PBCB " ++ ·)
  | .setUpdCb f => (operandText names.sinks f).map ("UPCB " ++ ·)

/-! ### Reading -/

/-- The word collected so far (its letters in reverse), if there is one. -/
def flushWord : List Char → List String
  | [] => []
  | c :: cs => [String.ofList (c :: cs).reverse]

/-- The words of a line: blanks separate, a comma stands for itself, `;` starts a comment. -/
def wordsFrom : List Char → List Char → List String
  | cur, [] => flushWord cur
  | cur, c :: cs =>
    if c = ';' then flushWord cur
    else if c = ' ' ∨ c = '\t' then flushWord cur ++ wordsFrom [] cs
    else if c = ',' then flushWord cur ++ "," :: wordsFrom [] cs
    else wordsFrom (c :: cur) cs

/-- The value of a character as a digit of a base of at most 16: its place in `digits`; small letters read as capitals. -/
def digitValue (base : Nat) (c : Char) : Option Nat := (digits.take base).findIdx? (· = c.toUpper)

/-- The value of digits, most significant first. -/
def digitsValue (base : Nat) (cs : List Char) : Option Nat :=
  cs.foldlM (fun acc c => (digitValue base c).map (acc * base + ·)) 0

/-- A number (R94): hexadecimal with `0x`, or decimal. -/
def number : List Char → Option Nat
  | [] => none
  | '0' :: 'x' :: c :: cs => digitsValue 16 (c :: cs)
  | c :: cs => digitsValue 10 (c :: cs)

/-- A number that fits `n` bits. -/
def numberOf (n : Nat) (w : String) : Option (BitVec n) :=
  match number w.toList with
  | none => none
  | some v => if v < 2 ^ n then some (BitVec.ofNat n v) else none

/-- The slot of a name. -/
def slotOf (w : String) : Option Slot := allSlots.find? (fun sl => slotName sl = w)

/-- The operand of a name: outer `none` for an unknown name. -/
def operandOf {α : Type} (names : List (String × α)) (w : String) : Option (Option α) :=
  if w = "none" then some none else (names.find? (fun p => p.1 = w)).map (fun p => some p.2)

/-- The line's words without a trailing `-> <byte>`, the expected result of `R` and `IRQ?`. -/
def dropExpected : List String → List String
  | ["R", sl, "->", _] => ["R", sl]
  | ["IRQ?", "->", _] => ["IRQ?"]
  | ws => ws

/-- The repetition count of a word `X*n` (R95); `n` is a number as R94 writes them. -/
def repetition (w : String) : Option Nat :=
  match w.toList with
  | 'X' :: '*' :: cs => number cs
  | _ => none

/-- The operations that the words of a line stand for; `none` if they are no line of R94 or R95. -/
def instrsOf (names : Names) : List String → Option (List Instr)
  | [] => some []
  | ["X"] => some [.execute]
  | ["RST"] => some [.reset]
  | ["IRQ?"] => some [.getIrq]
  | ["REGS?"] => some [.getRegState]
  | ["T1?"] => some [.getTimer1]
  | ["T2?"] => some [.getTimer2]
  | ["SR?"] => some [.getSr]
  | ["W", sl, ",", d] =>
    match slotOf sl, numberOf 8 d with
    | some x, some b => some [writeInstr b x]
    | _, _ => none
  | ["R", sl] => (slotOf sl).map (fun x => [readInstr x])
  | ["PACB", f] => (operandOf names.ports f).map (fun x => [.setPaCb x])
  | ["PBCB", f] => (operandOf names.ports f).map (fun x => [.setPbCb x])
  | ["UPCB", f] => (operandOf names.sinks f).map (fun x => [.setUpdCb x])
  | ["T1LOAD", v] => (numberOf 16 v).map pseudoT1Load
  | ["T2LOAD", v] => (numberOf 16 v).map pseudoT2Load
  | ["IEN", m] => (numberOf 7 m).map pseudoIen
  | ["IDIS", m] => (numberOf 8 m).map pseudoIdis
  | ["IACK", m] => (numberOf 8 m).map pseudoIack
  | [w] => (repetition w).map pseudoX
  | _ => none

/-- Reading one line. -/
def readLine (names : Names) (line : String) : Option (List Instr) :=
  instrsOf names (dropExpected (wordsFrom [] line.toList))

end Sys2Proof.TraceText
end

