-- ==== Sys2Proof/Laws/TraceText.lean ====
section
/-! SUPPORT. The digits of the textual trace (30_encoding.md R94): what is written is read back. -/

namespace Sys2Proof.TraceText

/-- A written hexadecimal digit reads as its value. -/
theorem digitValue_hexDigit : ∀ n : Fin 16, digitValue 16 (hexDigit n) = some n.val := by decide

/-- A written byte reads as itself. -/
theorem numberOf_byteText (b : Byte) : numberOf 8 (byteText b) = some b := by
  have hhi := digitValue_hexDigit ⟨b.toNat / 16, by omega⟩
  have hlo := digitValue_hexDigit ⟨b.toNat % 16, by omega⟩
  have hv : number (byteText b).toList = some b.toNat := by
    simp [byteText, number, digitsValue, List.foldlM, hhi, hlo]
    omega
  simp [numberOf, hv, b.isLt]

end Sys2Proof.TraceText
end

