-- ==== Sys2Proof/Tests/Slice0.lean ====
section
/-! SUPPORT. The model's own tests: what WellFormed refuses, words written out from the spec's encoding, single
operations with results from the spec's examples and vectors, and a witness for the hypotheses of each statement. -/

namespace Sys2Proof.Tests

open Sys2Proof.Machine

/-! ### Small states -/

/-- The reset state with another device. -/
def withDev (v : Device) : State := { State.reset with dev := v }

/-- The state after an operation. -/
def after (i : Instr) (s : State) : State :=
  match exec i s with
  | .next t => t
  | .fault _ | .refused _ => s

/-- What an operation returns. -/
def answer (i : Instr) (s : State) : Result := (after i s).result

/-- The device after an operation. -/
def devAfter (i : Instr) (v : Device) : Device := (after i (withDev v)).dev

/-- A law without rows answers the same byte always. -/
def always (b : Byte) : PortCallback := .law [] b

/-! ### WellFormed refuses -/

/-- A law with two answers at the arguments (0x0F, 0xF0). -/
def twoAnswers : PortCallback := .law [((0x0F, 0xF0), 0x01), ((0x0F, 0xF0), 0x02)] 0x00

theorem test_wf_portA_law : (Instr.setPaCb (some twoAnswers)).wf = false := by decide
theorem test_wf_portB_law : (Instr.setPbCb (some twoAnswers)).wf = false := by decide
theorem test_wf_accepts_a_law : (Instr.setPaCb (some (.law [((0, 0), 1), ((0, 1), 1)] 0))).wf = true := by decide
theorem test_wf_regmap : RegMap.wf ⟨RegMap.default.slots.set 15 .ora⟩ = false := by decide
theorem test_wf_flagBits : FlagBits.wf { FlagBits.default with t2 := 6 } = false := by decide
theorem test_wf_acrFields : AcrLayout.wf { AcrLayout.default with t2PulseCount := 4 } = false := by decide
theorem test_wf_acrModes :
    AcrLayout.wf { AcrLayout.default with srModes := AcrLayout.default.srModes.set 5 .disabled } = false := by decide
theorem test_wf_pcrFields : PcrLayout.wf { PcrLayout.default with cb1Control := 3 } = false := by decide
theorem test_wf_pcrModes :
    PcrLayout.wf { PcrLayout.default with lineModes := PcrLayout.default.lineModes.set 7 .fixedLow } = false := by decide
theorem test_wf_config :
    Config.default.wf = true ∧
    Config.wf { Config.default with regmap := ⟨RegMap.default.slots.set 0 .ora⟩ } = false ∧
    Config.wf { Config.default with ifrBits := { FlagBits.default with ca1 := 0 } } = false ∧
    Config.wf { Config.default with acrLayout := { AcrLayout.default with srModeLow := 4 } } = false ∧
    Config.wf { Config.default with pcrLayout := { PcrLayout.default with ca2ModeLow := 2 } } = false := by decide

/-! ### Words, from 30_encoding.md R82 and R84: `op` in bits 15..12, `rs` in 11..8, `d` in 7..0 -/

theorem test_decode_writes_0_to_7 :
    decodeTableWord 16 0b0000_0000_01010101 = some (.wOrb 0x55) ∧
    decodeTableWord 16 0b0000_0001_01111111 = some (.wOra 0x7F) ∧
    decodeTableWord 16 0b0000_0010_10011111 = some (.wDdrb 0x9F) ∧
    decodeTableWord 16 0b0000_0011_11111111 = some (.wDdra 0xFF) ∧
    decodeTableWord 16 0b0000_0100_00010000 = some (.wT1cl 0x10) ∧
    decodeTableWord 16 0b0000_0101_00000000 = some (.wT1ch 0x00) ∧
    decodeTableWord 16 0b0000_0110_00010000 = some (.wT1ll 0x10) ∧
    decodeTableWord 16 0b0000_0111_10000001 = some (.wT1lh 0x81) := by decide

theorem test_decode_writes_8_to_15 :
    decodeTableWord 16 0b0000_1000_00110000 = some (.wT2cl 0x30) ∧
    decodeTableWord 16 0b0000_1001_01110101 = some (.wT2ch 0x75) ∧
    decodeTableWord 16 0b0000_1010_10100101 = some (.wSr 0xA5) ∧
    decodeTableWord 16 0b0000_1011_01000000 = some (.wAcr 0x40) ∧
    decodeTableWord 16 0b0000_1100_11001100 = some (.wPcr 0xCC) ∧
    decodeTableWord 16 0b0000_1101_01000000 = some (.wIfr 0x40) ∧
    decodeTableWord 16 0b0000_1110_11000000 = some (.wIer 0xC0) ∧
    decodeTableWord 16 0b0000_1111_10000000 = some (.wOraNoHandshake 0x80) := by decide

theorem test_decode_reads :
    decodeTableWord 16 0x1000 = some .rOrb ∧ decodeTableWord 16 0x1100 = some .rOra ∧
    decodeTableWord 16 0x1200 = some .rDdrb ∧ decodeTableWord 16 0x1300 = some .rDdra ∧
    decodeTableWord 16 0x1400 = some .rT1cl ∧ decodeTableWord 16 0x1500 = some .rT1ch ∧
    decodeTableWord 16 0x1600 = some .rT1ll ∧ decodeTableWord 16 0x1700 = some .rT1lh ∧
    decodeTableWord 16 0x1800 = some .rT2cl ∧ decodeTableWord 16 0x1900 = some .rT2ch ∧
    decodeTableWord 16 0x1A00 = some .rSr ∧ decodeTableWord 16 0x1B00 = some .rAcr ∧
    decodeTableWord 16 0x1C00 = some .rPcr ∧ decodeTableWord 16 0x1D00 = some .rIfr ∧
    decodeTableWord 16 0x1E00 = some .rIer ∧ decodeTableWord 16 0x1F00 = some .rOraNoHandshake := by decide

theorem test_decode_host_operations :
    decodeTableWord 16 0x2000 = some .execute ∧ decodeTableWord 16 0x3000 = some .reset ∧
    decodeTableWord 16 0x4000 = some .getIrq ∧ decodeTableWord 16 0x5000 = some .getRegState ∧
    decodeTableWord 16 0x6000 = some .getTimer1 ∧ decodeTableWord 16 0x7000 = some .getTimer2 ∧
    decodeTableWord 16 0x8000 = some .getSr ∧ decodeTableWord 16 0x9000 = some (.setPaCb none) ∧
    decodeTableWord 16 0xA000 = some (.setPbCb none) ∧ decodeTableWord 16 0xB000 = some (.setUpdCb none) := by decide

/-- The function argument travels beside the word (R82). -/
theorem test_decode_registrations :
    decode RegMap.default 0x9000 (.port (always 0xAA)) = .instr (.setPaCb (some (always 0xAA))) ∧
    decode RegMap.default 0xA000 (.port (.free 2)) = .instr (.setPbCb (some (.free 2))) ∧
    decode RegMap.default 0xB000 (.sink 3) = .instr (.setUpdCb (some 3)) := by decide

/-- R92: op codes 12 to 15; and the defects of a registration's operand. -/
theorem test_decode_refusals :
    decode RegMap.default 0xC000 .absent = .rejected (.reservedOpcode 12) ∧
    decode RegMap.default 0xFFFF .absent = .rejected (.reservedOpcode 15) ∧
    decode RegMap.default 0x9000 (.sink 1) = .rejected .operandMismatch ∧
    decode RegMap.default 0xB000 (.port (.free 1)) = .rejected .operandMismatch ∧
    decode RegMap.default 0xA000 (.port twoAnswers) = .rejected .notAFunction := by decide

/-- R82: `d` of a READ, and `rs` and `d` of op codes 2 to 11, are ignored. -/
theorem test_decode_ignored_fields :
    decodeTableWord 16 0x1DFF = some .rIfr ∧ decodeTableWord 16 0x2FFF = some .execute := by decide

/-- R84: under another register map the address follows the map. -/
theorem test_decode_other_map :
    decode ⟨#v[.ora, .orb, .ddrb, .ddra, .t1cl, .t1ch, .t1ll, .t1lh, .t2cl, .t2ch, .sr, .acr, .pcr, .ifr, .ier,
      .oraNoHandshake]⟩ 0x0055 .absent = .instr (.wOra 0x55) := by decide

/-- The words that the encoder writes: R82 and program P1 of 95_test_vectors.md. -/
theorem test_encode :
    (encode RegMap.default (.wIer 0xC0)).word = 0x0EC0 ∧ (encode RegMap.default .rIfr).word = 0x1D00 ∧
    (encode RegMap.default .execute).word = 0x2000 ∧
    encode RegMap.default (.setUpdCb (some 3)) = ⟨0xB000, .sink 3⟩ := by decide

/-- R68: a wider address is reduced to its low four bits. -/
theorem test_busSlot : RegMap.default.busSlot 0xD00D = .ifr ∧ RegMap.default.busSlot 0x10 = .orb := by decide

/-- R96: the named masks. -/
theorem test_masks :
    Config.default.ca2Mask = 0x0E ∧ Config.default.cb2Mask = 0xE0 ∧ Config.default.srMask = 0x1C ∧
    Config.default.t1Pb7ControlMask = 0x80 ∧ Config.default.t1Int = 0x40 ∧ Config.default.t2Int = 0x20 ∧
    Config.default.srInt = 0x04 := by decide

set_option maxRecDepth 4000 in
/-- R94, R95: lines of the textual trace. -/
theorem test_trace_text :
    TraceText.lineOf ⟨[], []⟩ (.wOrb 0x5A) = some "W ORB, 0x5A" ∧
    TraceText.readLine ⟨[], []⟩ "R IFR -> 0x40" = some [.rIfr] ∧
    TraceText.readLine ⟨[("f", always 1)], []⟩ "PACB f" = some [.setPaCb (some (always 1))] ∧
    TraceText.readLine ⟨[], []⟩ "T1LOAD 0x0010" = some [.wT1cl 0x10, .wT1ch 0x00] ∧
    TraceText.readLine ⟨[], []⟩ "IEN 0x40" = some [.wIer 0xC0] := by decide

set_option maxRecDepth 4000 in
/-- R95 with R94: the count of `X*n` is a number of either base, 0 included. -/
theorem test_trace_text_repetition :
    TraceText.readLine ⟨[], []⟩ "X*2" = some [.execute, .execute] ∧
    TraceText.readLine ⟨[], []⟩ "X*0x10" = some (List.replicate 16 .execute) ∧
    TraceText.readLine ⟨[], []⟩ "X*0" = some [] ∧ TraceText.readLine ⟨[], []⟩ "X*" = none ∧
    TraceText.readLine ⟨[], []⟩ "X*1F" = none := by decide

/-! ### Steps -/

/-- The step runs the operation of the word, as the first one after reset. -/
theorem test_step_runs_the_word :
    step (State.reset.withFetchWord 16 0x0EC0) = exec (.wIer 0xC0) State.reset := rfl

theorem test_step_idle : step State.reset = .next State.reset := rfl

theorem test_step_refuses : step (State.reset.withFetchWord 16 0xC000) = .refused (.reservedOpcode 12) := rfl

/-! ### Reads: the examples of 40_register_read.md -/

/-- R110, vector V01. -/
theorem test_read_orb :
    answer .rOrb { withDev { Device.reset with orb := 0xF0, ddrb := 0x3C } with
      env := { State.reset.env with portBCb := some (always 0x0F) } } = .byte 0x33 := by decide

/-- R191, R193: one call, with the direction mask first and the stored byte second. -/
theorem test_port_calls :
    (after .rOrb { withDev { Device.reset with orb := 0xF0, ddrb := 0x3C } with
      env := { State.reset.env with portBCb := some (always 0x0F) } }).env.calls = [.portB 0x3C 0xF0 0x0F] ∧
    (after .rOra { withDev { Device.reset with ora := 0xF0, ddra := 0x0F } with
      env := { State.reset.env with portACb := some (always 0xAA) } }).env.calls = [.portA 0x0F 0xF0 0xAA] := by decide

/-- R194: bit 7 is `PB7` under PB7 control. -/
theorem test_read_orb_pb7 :
    answer .rOrb (withDev { Device.reset with ddrb := 0xFF, acr := 0x80, pb7 := 0x80 }) = .byte 0x80 := by decide

/-- R111. -/
theorem test_read_ora :
    answer .rOra (withDev { Device.reset with pcr := 0x0A, ora := 0x12, ddra := 0xFF }) = .byte 0x12 ∧
    (devAfter .rOra { Device.reset with pcr := 0x0A, ora := 0x12, ddra := 0xFF }).ca2State = false ∧
    (devAfter .rOra { Device.reset with pcr := 0x0E }).ca2State = true := by decide

/-- R112, R113. -/
theorem test_read_directions :
    answer .rDdrb (withDev { Device.reset with ddrb := 0x9F }) = .byte 0x9F ∧
    answer .rDdra (withDev { Device.reset with ddra := 0x5A, ddrb := 0x9F }) = .byte 0x5A := by decide

/-- R114. -/
theorem test_read_t1cl :
    let v : Device := { Device.reset with t1 := ⟨0x1234, true, true⟩, ifr := 0x40, ier := 0x40, acr := 0x80, pb7 := 0x00 }
    answer .rT1cl (withDev v) = .byte 0x34 ∧
    devAfter .rT1cl v = { v with t1 := ⟨0x1234, false, true⟩, ifr := 0x00, pb7 := 0x80 } := by decide

/-- R115 to R117. -/
theorem test_read_t1_bytes :
    let s := withDev { Device.reset with t1 := ⟨0x1234, true, false⟩, t1ll := 0x10, t1lh := 0x02 }
    answer .rT1ch s = .byte 0x12 ∧ answer .rT1ll s = .byte 0x10 ∧ answer .rT1lh s = .byte 0x02 := by decide

/-- R118. -/
theorem test_read_t2cl :
    let v : Device := { Device.reset with t2 := ⟨0x00FE, true, true⟩, ifr := 0x20, t2cl := 0x55 }
    answer .rT2cl (withDev v) = .byte 0xFE ∧
    devAfter .rT2cl v = { v with t2 := ⟨0x00FE, false, true⟩, ifr := 0x00 } := by decide

/-- R119. -/
theorem test_read_t2ch :
    answer .rT2ch (withDev { Device.reset with t2 := ⟨0xABCD, true, false⟩, t2ch := 0x11 }) = .byte 0xAB := by decide

/-- R120. -/
theorem test_read_sr :
    let v : Device := { Device.reset with sr := 0xA5, shift := ⟨false, 8, 0x03⟩, ifr := 0x04 }
    answer .rSr (withDev v) = .byte 0xA5 ∧
    devAfter .rSr v = { v with shift := ⟨true, 0, 0x03⟩, ifr := 0x00 } := by decide

/-- R121, R122. -/
theorem test_read_controls :
    answer .rAcr (withDev { Device.reset with acr := 0x98, pcr := 0xCE }) = .byte 0x98 ∧
    answer .rPcr (withDev { Device.reset with acr := 0x98, pcr := 0xCE }) = .byte 0xCE := by decide

/-- R123. -/
theorem test_read_ifr :
    answer .rIfr (withDev { Device.reset with ifr := 0x60, ier := 0x20 }) = .byte 0xE0 ∧
    answer .rIfr (withDev { Device.reset with ifr := 0x40, ier := 0x20 }) = .byte 0x40 := by decide

/-- R124. -/
theorem test_read_ier :
    answer .rIer State.reset = .byte 0x80 ∧
    answer .rIer (withDev { Device.reset with ier := 0x40 }) = .byte 0xC0 := by decide

/-- R125, R192. -/
theorem test_read_ora_no_handshake :
    answer .rOraNoHandshake { withDev { Device.reset with ora := 0xF0, ddra := 0x0F, pcr := 0x0A } with
      env := { State.reset.env with portACb := some (always 0xAA) } } = .byte 0xA0 ∧
    (devAfter .rOraNoHandshake { Device.reset with pcr := 0x0A }).ca2State = true := by decide

/-! ### Writes: the examples of 41_register_write.md -/

/-- R130. -/
theorem test_write_orb :
    devAfter (.wOrb 0x55) { Device.reset with pcr := 0xA0 } =
      { Device.reset with pcr := 0xA0, orb := 0x55, cb2State := false } := by decide

/-- R131. -/
theorem test_write_ora :
    devAfter (.wOra 0x7F) { Device.reset with pcr := 0x08, ca2State := false } =
      { Device.reset with pcr := 0x08, ora := 0x7F, ca2State := true } := by decide

/-- R132, R133. -/
theorem test_write_directions :
    devAfter (.wDdrb 0x9F) Device.reset = { Device.reset with ddrb := 0x9F } ∧
    devAfter (.wDdra 0xFF) Device.reset = { Device.reset with ddra := 0xFF } := by decide

/-- R134, R136, R137: the latches alone. -/
theorem test_write_latches :
    let v : Device := { Device.reset with t1 := ⟨0x0005, true, false⟩, ifr := 0x40 }
    devAfter (.wT1cl 0x10) v = { v with t1ll := 0x10 } ∧ devAfter (.wT1ll 0x10) v = { v with t1ll := 0x10 } ∧
    devAfter (.wT1lh 0x02) v = { v with t1lh := 0x02 } := by decide

/-- R135. -/
theorem test_write_t1ch :
    let v : Device := { Device.reset with t1ll := 0x10, t1 := ⟨0xFFFF, false, true⟩, ifr := 0x60, acr := 0x80 }
    devAfter (.wT1ch 0x00) v = { v with t1lh := 0x00, t1 := ⟨0x0010, true, false⟩, ifr := 0x20, pb7 := 0x00 } := by decide

/-- R138, at both settings of the parameter. -/
theorem test_write_t2cl :
    let v : Device := { Device.reset with t2 := ⟨0x1234, true, true⟩, ifr := 0x20 }
    devAfter (.wT2cl 0x30) v = { v with t2cl := 0x30 } ∧
    (after (.wT2cl 0x30) { withDev v with cfg := { Config.default with t2clWriteTouchesCounter := true } }).dev =
      { v with t2cl := 0x30, t2 := ⟨0x1230, true, true⟩ } := by decide

/-- R139. -/
theorem test_write_t2ch :
    let v : Device := { Device.reset with t2cl := 0x30, ifr := 0x60, t2 := ⟨0x0001, false, true⟩ }
    devAfter (.wT2ch 0x75) v = { v with t2ch := 0x75, t2 := ⟨0x7530, true, false⟩, ifr := 0x40 } := by decide

/-- R140. -/
theorem test_write_sr :
    let v : Device := { Device.reset with shift := ⟨false, 8, 0x02⟩, ifr := 0x44 }
    devAfter (.wSr 0xA5) v = { v with sr := 0xA5, shift := ⟨true, 0, 0x02⟩, ifr := 0x40 } := by decide

/-- R141. -/
theorem test_write_acr : devAfter (.wAcr 0x40) Device.reset = { Device.reset with acr := 0x40 } := by decide

/-- R142. -/
theorem test_write_pcr :
    devAfter (.wPcr 0xCC) Device.reset = { Device.reset with pcr := 0xCC, ca2State := false, cb2State := false } ∧
    devAfter (.wPcr 0xCE) { Device.reset with ca2State := false } =
      { Device.reset with pcr := 0xCE, ca2State := true, cb2State := false } := by decide

/-- R143. -/
theorem test_write_ifr :
    devAfter (.wIfr 0x40) { Device.reset with ifr := 0x64 } = { Device.reset with ifr := 0x24 } ∧
    devAfter (.wIfr 0x80) { Device.reset with ifr := 0x64 } = { Device.reset with ifr := 0x64 } := by decide

/-- R144. -/
theorem test_write_ier :
    devAfter (.wIer 0xC0) Device.reset = { Device.reset with ier := 0x40 } ∧
    devAfter (.wIer 0x40) { Device.reset with ier := 0x41 } = { Device.reset with ier := 0x01 } := by decide

/-- R145. -/
theorem test_write_ora_no_handshake :
    devAfter (.wOraNoHandshake 0x80) { Device.reset with pcr := 0x08, ca2State := false } =
      { Device.reset with pcr := 0x08, ora := 0x80, ca2State := false } := by decide

/-! ### EXECUTE: the examples of 42_execute_timers.md, 43_shift_register.md and 44_port_io_handshake.md -/

/-- R153, R154: the two kinds of Timer 1 wrap. -/
theorem test_execute_timer1 :
    devAfter .execute { Device.reset with t1 := ⟨0x0000, true, false⟩, t1ll := 0x10, acr := 0xC0, pb7 := 0x00 } =
      { Device.reset with t1 := ⟨0x0010, true, false⟩, t1ll := 0x10, acr := 0xC0, pb7 := 0x80, ifr := 0x40, clk := 1 } ∧
    devAfter .execute { Device.reset with t1 := ⟨0x0000, true, false⟩, acr := 0x80, pb7 := 0x00 } =
      { Device.reset with t1 := ⟨0xFFFF, true, true⟩, acr := 0x80, pb7 := 0x80, ifr := 0x40, clk := 1 } := by decide

/-- R156, R157. -/
theorem test_execute_timer2 :
    devAfter .execute { Device.reset with t2 := ⟨0x0000, true, false⟩ } =
      { Device.reset with t2 := ⟨0xFFFF, true, true⟩, ifr := 0x20, clk := 1 } ∧
    (devAfter .execute { Device.reset with t2 := ⟨0x0000, true, false⟩, acr := 0x20 }).t2 = ⟨0x0000, true, false⟩ := by
  decide

/-- R177, R178: one bit out; R179: the eighth. -/
theorem test_execute_shift_out :
    devAfter .execute { Device.reset with acr := 0x18, sr := 0x81, shift := ⟨true, 3, 0x05⟩ } =
      { Device.reset with
        acr := 0x18, sr := 0x03, shift := ⟨true, 4, 0x04⟩, cb1StateSr := true, cb2StateSr := true, clk := 1 } ∧
    (devAfter .execute { Device.reset with acr := 0x18, shift := ⟨true, 7, 0x05⟩ }).shift = ⟨false, 8, 0x04⟩ ∧
    (devAfter .execute { Device.reset with acr := 0x18, shift := ⟨true, 7, 0x05⟩ }).ifr = 0x04 := by decide

/-- R178: one bit in; R181: the sub-counter's reload; R174: no tick while the sub-counter is not 0 in class T2. -/
theorem test_execute_shift_in :
    (devAfter .execute { Device.reset with acr := 0x04, sr := 0x80, t2cl := 0x03, shift := ⟨true, 0, 0x00⟩ }).sr = 0x01 ∧
    (devAfter .execute { Device.reset with acr := 0x04, t2cl := 0x03 }).shift.counter = 0x03 ∧
    (devAfter .execute { Device.reset with acr := 0x04, shift := ⟨true, 0, 0x02⟩ }).cb1StateSr = false := by decide

/-- R200. -/
theorem test_execute_pulse :
    (devAfter .execute { Device.reset with pcr := 0x0A, ca2State := false }).ca2State = true ∧
    (devAfter .execute { Device.reset with pcr := 0x08, ca2State := false }).ca2State = false := by decide

/-- R204: the tuple after reset. -/
theorem test_execute_observer :
    (after .execute { State.reset with env := { State.reset.env with updateCb := some 4 } }).env.calls =
      [.observed 4 { ora := 0x00, portB := 0x00, ca1 := false, ca2 := true, cb1 := false, cb2 := true }] := by decide

/-! ### The other operations: the examples of 45_host_operations.md -/

/-- R210, with the callbacks kept. -/
theorem test_reset :
    after .reset { withDev { Device.reset with ora := 0xFF, pb7 := 0x00, ifr := 0x7F, clk := 9, ca2State := false } with
      env := { State.reset.env with updateCb := some 4 } } =
      { State.reset with env := { State.reset.env with updateCb := some 4 } } := by decide

/-- R212. -/
theorem test_getIrq :
    answer .getIrq (withDev { Device.reset with ifr := 0x40, ier := 0x40 }) = .byte 0x80 ∧
    answer .getIrq (withDev { Device.reset with ifr := 0x40, ier := 0x20 }) = .byte 0x00 := by decide

/-- R216. -/
theorem test_getRegState :
    answer .getRegState State.reset = .registers
      [0x00, 0x00, 0x00, 0x00, 0x00, 0x00, 0x00, 0x00, 0x00, 0x00, 0x00, 0x00, 0x00, 0x00, 0x80, 0x00] := by decide

/-- R217. -/
theorem test_queries :
    let s := withDev { Device.reset with t1 := ⟨0x000D, true, false⟩, t2 := ⟨0x1234, false, true⟩, shift := ⟨true, 3, 0x07⟩ }
    answer .getTimer1 s = .timer ⟨0x000D, true, false⟩ ∧ answer .getTimer2 s = .timer ⟨0x1234, false, true⟩ ∧
    answer .getSr s = .shiftUnit ⟨true, 3, 0x07⟩ := by decide

/-- R218 to R220. -/
theorem test_registrations :
    (after (.setPaCb (some (always 1))) State.reset).env = { State.reset.env with portACb := some (always 1) } ∧
    (after (.setPbCb (some (.free 2))) State.reset).env = { State.reset.env with portBCb := some (.free 2) } ∧
    (after (.setUpdCb (some 4)) State.reset).env = { State.reset.env with updateCb := some 4 } := by decide

/-! ### Witnesses: concrete states and operands that meet the hypotheses of the statements, all together -/

/-- Every state of these tests keeps the default parameters. -/
theorem withDev_defaults (v : Device) :
    (withDev v).DefaultBits ∧ (withDev v).DefaultAccess ∧ (withDev v).DefaultMode4 :=
  ⟨⟨rfl, rfl, rfl⟩, rfl, rfl⟩

/-- The default premises all at once, at both handshake modes (`PCR` 0xA8) and PB7 control (`ACR` 0x80). For the statements whose only premises these are:
ReadT1clStopsTimer1AndClearsItsFlag, ReadT2clStopsTimer2AndClearsItsFlag, ReadSrRestartsShiftingAndKeepsTheByte,
ReadOrbReturnsTheEffectiveValue, ReadOraLowersCa2InTheAccessModes, WriteT1chLoadsAndStartsTimer1,
WriteT2chLoadsAndStartsTimer2, WriteSrStoresTheByteAndRestartsShifting, WritePcrRecomputesBothLines,
WritesOfTheOutputRegistersMoveTheirLines, ExecuteRestoresPulseLines, ExecuteLeavesTheRestAlone,
Timer1FlagComesAtTheNextExecuteAfterZero, ShiftClockTogglesCb1. -/
theorem witness_defaults :
    let s := withDev { Device.reset with pcr := 0xA8, acr := 0x80 }
    s.DefaultBits ∧ s.DefaultAccess ∧ s.DefaultMode4 ∧ movesCode s.ca2Code = true ∧ movesCode s.cb2Code = true :=
  ⟨⟨rfl, rfl, rfl⟩, rfl, rfl, by decide, by decide⟩

/-- ReadOraNoHandshakeCallsPortAOnce: its three clauses, one law with a row for the arguments and one without. -/
theorem witness_ReadOraNoHandshake :
    State.reset.env.portACb = none ∧
    (after (.setPaCb (some (.law [((0x00, 0x00), 0x5A)] 0xFF))) State.reset).env.portACb =
      some (.law [((0x00, 0x00), 0x5A)] 0xFF) ∧
    (PortCallback.law [((0x00, 0x00), 0x5A)] 0xFF).wf = true ∧
    (∀ b : Byte, ((0x01, 0x00), b) ∉ [(((0x00 : Byte), (0x00 : Byte)), (0x5A : Byte))]) := by
  exact ⟨rfl, by decide, by decide, by simp⟩

/-- `PortBEvaluates`, in ReadOrbReturnsTheEffectiveValue and ObserverGetsTheTupleOfThisCycle: both its clauses, a law that has
a row for the arguments (DDRB, ORB) and one that has none. -/
theorem witness_PortBEvaluates :
    let v : Device := { Device.reset with ddrb := 0x3C, orb := 0xF0 }
    let f : PortCallback := .law [((0x3C, 0xF0), 0x5A)] 0x11
    let s := after (.setPbCb (some f)) (withDev v)
    s.DefaultBits ∧ State.reset.PortBEvaluates 0x00 State.reset.env ∧ answers f 0x3C 0xF0 0x5A ∧
      answers f 0xF0 0x3C 0x11 ∧ ¬ answers f 0x3C 0xF0 0x11 ∧
      s.PortBEvaluates 0x5A { s.env with drawsB := 1, calls := [.portB 0x3C 0xF0 0x5A] } := by
  have h : answers (.law [((0x3C, 0xF0), 0x5A)] 0x11) 0x3C 0xF0 0x5A := by
    rintro rows other h -
    cases h
    exact ⟨by simp, by simp⟩
  refine ⟨⟨rfl, rfl, rfl⟩, ⟨rfl, rfl⟩, h, ?_, ?_, h, rfl⟩
  · rintro rows other h -
    cases h
    exact ⟨by simp, by simp⟩
  · intro h
    exact absurd ((h _ _ rfl (by decide)).1 0x5A (by simp)) (by decide)

/-- `PortAEvaluates`, in ReadOraLowersCa2InTheAccessModes, likewise. -/
theorem witness_PortAEvaluates :
    let s := after (.setPaCb (some (.free 2))) (withDev { Device.reset with ddra := 0x0F, ora := 0xF0, pcr := 0x0A })
    s.DefaultBits ∧ s.DefaultAccess ∧ State.reset.PortAEvaluates 0x00 State.reset.env ∧
      s.PortAEvaluates 0xAA { s.env with drawsA := 1, calls := [.portA 0x0F 0xF0 0xAA] } := by
  refine ⟨⟨rfl, rfl, rfl⟩, rfl, ⟨rfl, rfl⟩, ?_, rfl⟩
  rintro rows other h -
  cases h

/-- ExecuteAdvancesTimer1: a state for each of its five clauses, with the counter at its two boundary values. -/
theorem witness_ExecuteAdvancesTimer1 :
    let off := State.reset
    let counts := withDev { Device.reset with acr := 0x40, t1 := ⟨0x0001, true, false⟩ }
    let reloads := withDev { Device.reset with acr := 0x40, t1 := ⟨0x0000, true, false⟩ }
    let fires := withDev { Device.reset with t1 := ⟨0x0000, true, false⟩ }
    let fired := withDev { Device.reset with t1 := ⟨0x0000, true, true⟩ }
    off.DefaultBits ∧ counts.DefaultBits ∧ reloads.DefaultBits ∧ fires.DefaultBits ∧ fired.DefaultBits ∧
      off.dev.t1.enabled = false ∧ counts.dev.t1.counter ≠ 0x0000 ∧ reloads.dev.acr.getLsbD 6 = true ∧
      fires.dev.acr.getLsbD 6 = false ∧ fires.dev.t1.oneShot = false ∧ fired.dev.t1.oneShot = true :=
  ⟨⟨rfl, rfl, rfl⟩, ⟨rfl, rfl, rfl⟩, ⟨rfl, rfl, rfl⟩, ⟨rfl, rfl, rfl⟩, ⟨rfl, rfl, rfl⟩, by decide⟩

/-- ExecuteAdvancesTimer2: a state for each of its four clauses, in the timed mode. -/
theorem witness_ExecuteAdvancesTimer2 :
    let off := State.reset
    let counts := withDev { Device.reset with t2 := ⟨0xFFFF, true, false⟩ }
    let fires := withDev { Device.reset with t2 := ⟨0x0000, true, false⟩ }
    let fired := withDev { Device.reset with t2 := ⟨0x0000, true, true⟩ }
    off.DefaultBits ∧ counts.DefaultBits ∧ fires.DefaultBits ∧ fired.DefaultBits ∧
      off.dev.acr.getLsbD 5 = false ∧ counts.dev.acr.getLsbD 5 = false ∧ fires.dev.acr.getLsbD 5 = false ∧
      fired.dev.acr.getLsbD 5 = false ∧ off.dev.t2.enabled = false ∧ counts.dev.t2.counter ≠ 0x0000 ∧
      fires.dev.t2.oneShot = false ∧ fired.dev.t2.oneShot = true :=
  ⟨⟨rfl, rfl, rfl⟩, ⟨rfl, rfl, rfl⟩, ⟨rfl, rfl, rfl⟩, ⟨rfl, rfl, rfl⟩, by decide⟩

/-- FiredOneShotTimersStaySilent: both clauses in one state, Timer 2 about to wrap again. -/
theorem witness_FiredOneShotTimers :
    let s := withDev { Device.reset with t1 := ⟨0xFFFF, true, true⟩, t2 := ⟨0x0000, true, true⟩ }
    s.DefaultBits ∧ s.dev.acr.getLsbD 5 = false ∧ s.dev.acr.getLsbD 6 = false ∧ s.dev.t1.enabled = true ∧
      s.dev.t1.oneShot = true ∧ s.dev.t2.enabled = true ∧ s.dev.t2.oneShot = true :=
  ⟨⟨rfl, rfl, rfl⟩, by decide⟩

/-- PulseCountingHoldsTimer2. -/
theorem witness_PulseCountingHoldsTimer2 :
    let s := withDev { Device.reset with acr := 0x20, t2 := ⟨0x0000, true, false⟩ }
    s.DefaultBits ∧ s.dev.acr.getLsbD 5 = true := ⟨⟨rfl, rfl, rfl⟩, by decide⟩

/-- ShiftUpdateMovesAndCountsOneBit: a state that moves its eighth bit, one that moves none. -/
theorem witness_ShiftUpdateMovesAndCountsOneBit :
    (withDev { Device.reset with acr := 0x18, shift := ⟨true, 7, 0x00⟩ }).shiftMoves = true ∧
    (withDev { Device.reset with acr := 0x14, shift := ⟨true, 0, 0x01⟩ }).shiftMoves = false := by decide

/-- ObserverGetsTheTupleOfThisCycle and HandshakePulseIsOneSampleWide: a registered observer, CA2 in pulse mode. -/
theorem witness_Observer :
    let s := after (.setUpdCb (some 4)) (withDev { Device.reset with pcr := 0x0A })
    s.DefaultBits ∧ s.DefaultAccess ∧ s.DefaultMode4 ∧ s.ca2Code = 0b101 ∧ s.env.updateCb = some 4 ∧
      State.reset.env.updateCb = none :=
  ⟨⟨rfl, rfl, rfl⟩, rfl, rfl, by decide, rfl, rfl⟩

/-- The statements whose premise is `exec i s = next t`, for every `i` and `s`, at the operations that change what they
speak of: SubCounterFreeRunsFromT2cl, NoOperationTouchesParametersOrSequence, TimersStartAndStopByTheirSlotsOnly,
RegistersChangeByTheirSlotsOnly, ClkCountsExecutes. -/
theorem witness_events :
    exec (.wIer 0xC0) State.reset = .next (withDev { Device.reset with ier := 0x40 }) ∧
    exec (.wT1ch 0x01) State.reset =
      .next (withDev { Device.reset with t1lh := 0x01, t1 := ⟨0x0100, true, false⟩ }) ∧
    exec .rT2cl (withDev { Device.reset with t2 := ⟨0x0002, true, false⟩ }) =
      .next { withDev { Device.reset with t2 := ⟨0x0002, false, false⟩ } with result := .byte 0x02 } ∧
    exec .execute State.reset = .next (withDev { Device.reset with clk := 1 }) ∧
    exec .reset (withDev { Device.reset with acr := 0xFF }) = .next State.reset := ⟨rfl, rfl, rfl, rfl, rfl⟩

/-- Ca2IsWrittenByTheListedEventsOnly and Cb2IsWrittenByTheListedEventsOnly, at their events: a lowering access, a raising
one, the two outcomes of a PCR write, the restore. The defaults hold there by `withDev_defaults`. -/
theorem witness_lines :
    exec .rOra (withDev { Device.reset with pcr := 0x08 }) =
      .next { withDev { Device.reset with pcr := 0x08, ca2State := false } with result := .byte 0x00 } ∧
    exec (.wOra 0x00) (withDev { Device.reset with pcr := 0x0A, ca2State := false }) =
      .next (withDev { Device.reset with pcr := 0x0A }) ∧
    exec (.wOrb 0x00) (withDev { Device.reset with pcr := 0x80 }) =
      .next (withDev { Device.reset with pcr := 0x80, cb2State := false }) ∧
    exec (.wPcr 0xCE) State.reset = .next (withDev { Device.reset with pcr := 0xCE, cb2State := false }) ∧
    exec .execute (withDev { Device.reset with pcr := 0xA0, cb2State := false }) =
      .next (withDev { Device.reset with pcr := 0xA0, clk := 1 }) := ⟨rfl, rfl, rfl, rfl, rfl⟩

/-- FlagsChangeByTheListedEventsOnly: an EXECUTE that sets all three flags, a write that clears one, a kept one. -/
theorem witness_FlagsChange :
    let v : Device := { Device.reset with
      acr := 0x18, t1 := ⟨0x0000, true, false⟩, t2 := ⟨0x0000, true, false⟩, shift := ⟨true, 7, 0x01⟩ }
    setsFlag (withDev v) 6 .execute = true ∧ setsFlag (withDev v) 5 .execute = true ∧
    setsFlag (withDev v) 2 .execute = true ∧ setsFlag (withDev v) 0 .execute = false ∧
    (devAfter .execute v).ifr = 0x64 ∧ clearsFlag 6 (.wIfr 0x40) = true ∧ clearsFlag 5 (.wIfr 0x40) = false := by decide

/-- WrittenBytesReadBack: one of its slots. -/
theorem witness_WrittenBytesReadBack :
    Slot.t2ch ∈ [Slot.ddrb, .ddra, .acr, .pcr, .sr, .t1ll, .t1lh, .t1ch, .t2ch] := by decide

/-- LegalStatesStayLegal, LinesKeepTheLevelOfTheirMode, AcceptedTracesNeverStop: reset with one operation issued. -/
theorem witness_invariants :
    let s := State.reset.withFetchWord 16 0x0CCC
    s.Legal ∧ s.DefaultBits ∧ s.AccessSparesFixed ∧ s.LinesFit ∧ s.TraceOk ∧
      step s = .next (withDev { Device.reset with pcr := 0xCC, ca2State := false, cb2State := false }) := by
  refine ⟨⟨by decide, ?_⟩, ⟨rfl, rfl, rfl⟩, ?_, ⟨rfl, rfl⟩, ?_, rfl⟩
  · exact ⟨.inr rfl, by decide, by decide, rfl, rfl, rfl, rfl, rfl, rfl, by decide, by
      intro w h
      cases h⟩
  · intro m hm
    have h : m ∈ [LineMode.handshakeOutput, .pulseOutput] := hm
    simpa using h
  · intro o h
    rcases List.mem_singleton.1 h with rfl
    exact ⟨.wPcr 0xCC, by decide⟩

/-- StepRunsTheDecodedOperation, StepIdlesOrRefusesReservedCodes: an accepted word, the first and the last reserved one. -/
theorem witness_steps :
    (State.reset.withFetchWord 16 0x1D00).pending = [⟨0x1D00, .absent⟩] ∧
    decode State.reset.cfg.regmap 0x1D00 .absent = .instr .rIfr ∧ State.reset.pending = [] ∧
    12 ≤ ((0xC000 : TraceWord).extractLsb' 12 4).toNat ∧ 12 ≤ ((0xFFFF : TraceWord).extractLsb' 12 4).toNat ∧
    ((0xB000 : TraceWord).extractLsb' 12 4).toNat = 11 := by decide

/-- DecodingAnEncodedOperationGivesItBack: a register map and operations that are well-formed. -/
theorem witness_Decoding :
    RegMap.default.wf = true ∧ (Instr.wOraNoHandshake 0xFF).wf = true ∧
    (Instr.setPbCb (some (.law [((0xFF, 0x00), 0x01), ((0x00, 0x00), 0x02)] 0x03))).wf = true := by decide

/-- DecodingIgnoresTheUnusedFields: two words of a READ of one slot, two of EXECUTE. -/
theorem witness_DecodingIgnores :
    (0x1D00 : TraceWord).extractLsb' 12 4 = (0x1DFF : TraceWord).extractLsb' 12 4 ∧
    (0x1D00 : TraceWord).extractLsb' 8 4 = (0x1DFF : TraceWord).extractLsb' 8 4 ∧
    (0x2000 : TraceWord).extractLsb' 12 4 = (0x2FFF : TraceWord).extractLsb' 12 4 ∧
    (0x1D00 : TraceWord).extractLsb' 12 4 ≠ 0 ∧ (0x2000 : TraceWord).extractLsb' 12 4 ≠ 1 := by decide

/-- ContinuousTimer1HasPeriodNPlusOne: vector V24's timer, and the shortest period. -/
theorem witness_ContinuousTimer1 :
    let s := withDev { Device.reset with acr := 0xC0, t1 := ⟨0x0001, true, false⟩, t1ll := 0x01, pb7 := 0x00 }
    let z := withDev { Device.reset with acr := 0x40, t1 := ⟨0x0000, true, false⟩ }
    s.DefaultBits ∧ z.DefaultBits ∧ s.dev.t1.enabled = true ∧ s.dev.acr.getLsbD 6 = true ∧
      s.dev.t1.counter = s.dev.t1lh ++ s.dev.t1ll ∧ z.dev.t1.enabled = true ∧ z.dev.acr.getLsbD 6 = true ∧
      z.dev.t1.counter = z.dev.t1lh ++ z.dev.t1ll := ⟨⟨rfl, rfl, rfl⟩, ⟨rfl, rfl, rfl⟩, by decide⟩

/-- ResetStateIsAFixedPointButForClk: the device after 9 EXECUTEs, with an observer and without one, `clk` at 4 bits. -/
theorem witness_ResetState :
    let c := { Config.default with clkWidth := some 4 }
    let s := { withDev { Device.reset with clk := 9 } with env := { State.reset.env with updateCb := some 4 }, cfg := c }
    let q := { withDev { Device.reset with clk := 9 } with cfg := c }
    s.DefaultBits ∧ s.dev = { Device.reset with clk := 9 } ∧ s.env.updateCb = some 4 ∧
      q.DefaultBits ∧ q.dev = { Device.reset with clk := 9 } ∧ q.env.updateCb = none ∧ clkAfter c 9 7 = 0 :=
  ⟨⟨rfl, rfl, rfl⟩, rfl, rfl, ⟨rfl, rfl, rfl⟩, rfl, rfl, by decide⟩

/-- Timer2FlagComesAtTheNextExecuteAfterZero: the timed mode, with a load of 0 and one of 0xFFFF. -/
theorem witness_Timer2Flag :
    let s := withDev { Device.reset with t2cl := 0xFF }
    s.DefaultBits ∧ s.dev.acr.getLsbD 5 = false ∧ ((0xFF : Byte) ++ s.dev.t2cl : Word) = 0xFFFF ∧
      ((0x00 : Byte) ++ State.reset.dev.t2cl : Word) = 0x0000 := ⟨⟨rfl, rfl, rfl⟩, by decide⟩

/-- PhaseTwoShiftOutSendsTheByte, TimerTwoShiftClockHasPeriodNPlusOne. -/
theorem witness_shift_clocks :
    let p := withDev { Device.reset with acr := 0x18 }
    let q := withDev { Device.reset with acr := 0x14, t2cl := 0x02 }
    p.DefaultBits ∧ q.DefaultBits ∧ q.DefaultMode4 ∧ p.cfg.srShiftOn = .every ∧ p.srCode = 0b110 ∧
      q.srCode ∈ [(1 : BitVec 3), 4, 5] ∧ q.dev.shift.counter = 0x00 :=
  ⟨⟨rfl, rfl, rfl⟩, ⟨rfl, rfl, rfl⟩, rfl, rfl, by decide, by decide, rfl⟩

end Sys2Proof.Tests
end

section
/-! Proofs for 00_scope.md: what `fetch` takes from the issued operations, and what a step does with it. -/

namespace Sys2Proof.Machine

/-- The oldest pending operation is issued when it decodes, and only that one is removed (R11, R82). -/
theorem fetch_of_decode_instr {s : State} {o : Issue} {rest : List Issue} {i : Instr}
    (hp : s.pending = o :: rest) (hd : decode s.cfg.regmap o.word o.beside = .instr i) :
    fetch s = .issue i { s with pending := rest } := by
  simp only [fetch, hp, hd]

/-- An issued operation runs in the state that `fetch` hands on. -/
theorem step_of_fetch_issue {s s' : State} {i : Instr} (h : fetch s = .issue i s') : step s = exec i s' := by
  simp only [step, h]

/-- Settles O46: `fetch` issues the decoded operation with the shortened queue, and the step runs what was issued. -/
theorem stepRunsTheDecodedOperation : Obligations.StepRunsTheDecodedOperation := by
  intro s o rest i hp hd
  exact step_of_fetch_issue (fetch_of_decode_instr hp hd)

end Sys2Proof.Machine
end

section
/-! Proofs for 10_state.md: what each operation makes of the state, and the invariants of R43. -/

namespace Sys2Proof.Machine

/-! ### What an operation can do, said once -/

/-- The device after an operation: a function of the parameters, the device and the operation alone. Neither the
environment nor what it answers reaches the device (10_state.md R41, R42). -/
def deviceAfter (c : Config) (v : Device) : Instr → Device
  | .wOrb d => { accessCb2 c false v with orb := d }
  | .wOra d => { accessCa2 c true v with ora := d }
  | .wDdrb d => { v with ddrb := d }
  | .wDdra d => { v with ddra := d }
  | .wT1cl d | .wT1ll d => { v with t1ll := d }
  | .wT1ch d =>
    setIfr c.t1Int false (setPb7 c 0x00 { v with t1lh := d, t1 := ⟨pairBytes d v.t1ll, true, false⟩ })
  | .wT1lh d => { v with t1lh := d }
  | .wT2cl d =>
    let n := if c.t2clWriteTouchesCounter then pairBytes (hiByte v.t2.counter) d else v.t2.counter
    { v with t2cl := d, t2 := { v.t2 with counter := n } }
  | .wT2ch d => setIfr c.t2Int false { v with t2ch := d, t2 := ⟨pairBytes d v.t2cl, true, false⟩ }
  | .wSr d => { setIfr c.srInt false v with sr := d, shift := { v.shift with shifted := 0, enabled := true } }
  | .wAcr d => { v with acr := d }
  | .wPcr d =>
    { v with pcr := d, ca2State := pcrWriteLevel (c.ca2Mode d), cb2State := pcrWriteLevel (c.cb2Mode d) }
  | .wIfr d => setIfr (d &&& 0x7F) false v
  | .wIer d => setIer d v
  | .wOraNoHandshake d => { v with ora := d }
  | .rOra => accessCa2 c false v
  | .rT1cl => setIfr c.t1Int false (setPb7 c 0x80 { v with t1 := { v.t1 with enabled := false } })
  | .rT2cl => setIfr c.t2Int false { v with t2 := { v.t2 with enabled := false } }
  | .rSr => { setIfr c.srInt false v with shift := { v.shift with shifted := 0, enabled := true } }
  | .execute => executeDevice c v
  | .reset => Device.reset
  | .rOrb | .rDdrb | .rDdra | .rT1ch | .rT1ll | .rT1lh | .rT2ch | .rAcr | .rPcr | .rIfr | .rIer | .rOraNoHandshake
  | .getIrq | .getRegState | .getTimer1 | .getTimer2 | .getSr | .setPaCb _ | .setPbCb _ | .setUpdCb _ => v

/-- Every operation answers a next state, in which the device is `deviceAfter`'s and nothing else but the environment and
the result is written. -/
theorem exec_eq_next (i : Instr) (s : State) :
    ∃ e r, exec i s = .next { s with dev := deviceAfter s.cfg s.dev i, env := e, result := r } := by
  cases i <;> exact ⟨_, _, rfl⟩

/-- The next state that an operation answers, taken apart. -/
theorem exec_next {i : Instr} {s t : State} (h : exec i s = .next t) :
    ∃ e r, t = { s with dev := deviceAfter s.cfg s.dev i, env := e, result := r } := by
  obtain ⟨e, r, he⟩ := exec_eq_next i s
  exact ⟨e, r, Host.Outcome.next.inj (h.symm.trans he)⟩

/-- Settles O33: an operation writes the device, the environment and the result alone. -/
theorem noOperationTouchesParametersOrSequence : Obligations.NoOperationTouchesParametersOrSequence := by
  intro i s t h
  obtain ⟨e, r, rfl⟩ := exec_next h
  exact ⟨rfl, rfl⟩

/-! ### What EXECUTE leaves of the timers' enables -/

/-- No wrap stops or starts Timer 1 (42_execute_timers.md R158). -/
@[simp] theorem t1Step_t1_enabled (c : Config) (v : Device) : (t1Step c v).t1.enabled = v.t1.enabled := by
  rcases t1Step_cases c v with ⟨_, h⟩ | ⟨_, _, h⟩ | ⟨_, _, _, h⟩ | ⟨_, _, _, _, h⟩ | ⟨_, _, _, _, h⟩ <;> rw [h]

/-- No wrap stops or starts Timer 2 (R158). -/
@[simp] theorem t2Step_t2_enabled (c : Config) (v : Device) : (t2Step c v).t2.enabled = v.t2.enabled := by
  rcases t2Step_cases c v with ⟨_, h⟩ | ⟨_, _, _, h⟩ | ⟨_, _, _, _, h⟩ <;> rw [h]

/-! ### Which operations write an element

In each, EXECUTE is the one operation whose effect is computed by steps that branch; every other operation is an update of
the record that either names the element or does not. -/

/-- Settles O37: EXECUTE keeps both enables, and the other operations name them in their updates or do not. -/
theorem timersStartAndStopByTheirSlotsOnly : Obligations.TimersStartAndStopByTheirSlotsOnly := by
  intro i s t h
  obtain ⟨e, r, rfl⟩ := exec_next h
  cases i
  case execute => simp [deviceAfter, executeDevice_t1, executeDevice_t2]
  all_goals exact ⟨rfl, rfl⟩

/-- Settles O38: EXECUTE writes none of the eleven registers, and the other operations name one in their updates or do
not. -/
theorem registersChangeByTheirSlotsOnly : Obligations.RegistersChangeByTheirSlotsOnly := by
  intro i s t h
  obtain ⟨e, r, rfl⟩ := exec_next h
  cases i
  case execute => simp [deviceAfter]
  all_goals exact ⟨rfl, rfl, rfl, rfl, rfl, rfl, rfl, rfl, rfl, rfl, rfl⟩

/-- Settles O39: `clk` is written by the last part of EXECUTE and by RESET. -/
theorem clkCountsExecutes : Obligations.ClkCountsExecutes := by
  intro i s t h
  obtain ⟨e, r, rfl⟩ := exec_next h
  cases i
  case execute => exact executeDevice_clk s.cfg s.dev
  all_goals rfl

/-! ### Legality: the elements that it speaks of, and how each may be written (10_state.md R43) -/

/-- The elements that R43 restrains. -/
def Device.restrained (v : Device) : Byte × Bool × Nat × Bool × Bool × Byte × Byte × Byte × Byte × FlagSet × Nat :=
  (v.pb7, v.shift.enabled, v.shift.shifted, v.ca1State, v.cb1State, v.ira, v.irb, v.iraLatch, v.irbLatch, v.ifr, v.clk)

section
variable {c : Config} {v w : Device}

/-- Legality depends on the restrained elements alone. -/
theorem Device.Legal.congr (h : v.Legal c) (e : w.restrained = v.restrained) : w.Legal c := by
  simp only [restrained, Prod.mk.injEq] at e
  obtain ⟨hpb7, hen, hsh, hca1, hcb1, hira, hirb, hiraL, hirbL, hifr, hclk⟩ := e
  exact {
    pb7Level := hpb7 ▸ h.pb7Level
    shiftedMax := hsh ▸ h.shiftedMax
    shiftedActive := hsh ▸ hen ▸ h.shiftedActive
    ca1Low := hca1 ▸ h.ca1Low
    cb1Low := hcb1 ▸ h.cb1Low
    iraInert := hira ▸ h.iraInert
    irbInert := hirb ▸ h.irbInert
    iraLatchInert := hiraL ▸ h.iraLatchInert
    irbLatchInert := hirbL ▸ h.irbLatchInert
    noLineFlag := hifr ▸ h.noLineFlag
    clkFits := hclk ▸ h.clkFits }

/-- RESET's device is legal whatever the parameters are. -/
theorem legal_reset (c : Config) : Device.reset.Legal c where
  pb7Level := .inr rfl
  shiftedMax := by decide
  shiftedActive := by decide
  ca1Low := rfl
  cb1Low := rfl
  iraInert := rfl
  irbInert := rfl
  iraLatchInert := rfl
  irbLatchInert := rfl
  noLineFlag := BitVec.zero_and
  clkFits w _ := Nat.two_pow_pos w

/-- Timer 1 may drive `PB7` to either of its two levels (f). -/
theorem legal_setPb7 {l : Byte} (hl : l = 0x00 ∨ l = 0x80) (h : v.Legal c) : (setPb7 c l v).Legal c :=
  { h with
    pb7Level := by
      rw [setPb7_pb7]
      split
      · exact hl
      · exact h.pb7Level }

/-- The unit record may be written when its count is in bounds (g). -/
theorem legal_shift {u : ShiftUnit} (hmax : u.shifted ≤ 8) (hact : u.enabled = true → u.shifted < 8) (h : v.Legal c) :
    { v with shift := u }.Legal c :=
  { h with shiftedMax := hmax, shiftedActive := hact }

/-- Any flag may be cleared (j). -/
theorem legal_setIfr_false (m : Byte) (h : v.Legal c) : (setIfr m false v).Legal c :=
  { h with
    noLineFlag := by
      rw [setIfr_ifr_false, BitVec.and_comm v.ifr, BitVec.and_assoc, h.noLineFlag]
      exact BitVec.and_zero }

/-- A flag that is no line flag may be set (j). -/
theorem legal_setIfr_true {m : Byte} (hm : low7 m &&& low7 c.lineInts = 0) (h : v.Legal c) :
    (setIfr m true v).Legal c :=
  { h with
    noLineFlag := by
      rw [setIfr_ifr_true, BitVec.and_or_distrib_right, h.noLineFlag, hm]
      exact BitVec.or_zero }

/-- `clk` may be incremented: it wraps where it has a width (R40). -/
theorem legal_clkSucc (h : v.Legal c) : { v with clk := clkSucc c v.clk }.Legal c :=
  { h with
    clkFits := fun w hw => by
      simp only [clkSucc, hw]
      exact Nat.mod_lt _ (Nat.two_pow_pos w) }

/-! ### The three flags that EXECUTE sets are no line flags (60_exceptions.md R236) -/

theorem low7_or (a b : Byte) : low7 (a ||| b) = low7 a ||| low7 b := BitVec.extractLsb'_or

/-- The masks of two flags at different bits have no bit in common. -/
theorem flagMask_and_flagMask : ∀ i j : Fin 7, i ≠ j → low7 (flagMask i) &&& low7 (flagMask j) = 0 := by decide

/-- A flag at none of the four line flags' bits is no line flag. -/
theorem flagMask_and_lineInts {i : Fin 7}
    (h : i ∉ [c.ifrBits.cb1, c.ifrBits.cb2, c.ifrBits.ca1, c.ifrBits.ca2]) :
    low7 (flagMask i) &&& low7 c.lineInts = 0 := by
  simp only [List.mem_cons, List.not_mem_nil, or_false, not_or] at h
  obtain ⟨hcb1, hcb2, hca1, hca2⟩ := h
  simp [Config.lineInts, low7_or, BitVec.and_or_distrib_left, flagMask_and_flagMask i _ hcb1,
    flagMask_and_flagMask i _ hcb2, flagMask_and_flagMask i _ hca1, flagMask_and_flagMask i _ hca2]

theorem distinct_iff_nodup {α : Type} [DecidableEq α] (l : List α) : distinct l = true ↔ l.Nodup := by
  induction l with
  | nil => simp [distinct]
  | cons a as ih => simp [distinct, ih]

/-- Under well-formed parameters each flag has a bit of its own (30_encoding.md R88). -/
theorem ifrBits_nodup (hc : c.wf = true) :
    [c.ifrBits.t1, c.ifrBits.t2, c.ifrBits.cb1, c.ifrBits.cb2, c.ifrBits.sr, c.ifrBits.ca1, c.ifrBits.ca2].Nodup := by
  simp only [Config.wf, Bool.and_eq_true] at hc
  obtain ⟨⟨⟨_, hflags⟩, _⟩, _⟩ := hc
  exact (distinct_iff_nodup _).1 hflags

/-- So the timers' and the shift register's flags are no line flags. -/
theorem ints_and_lineInts (hc : c.wf = true) :
    low7 c.t1Int &&& low7 c.lineInts = 0 ∧ low7 c.t2Int &&& low7 c.lineInts = 0 ∧
      low7 c.srInt &&& low7 c.lineInts = 0 := by
  have hbits := ifrBits_nodup hc
  simp only [List.nodup_cons, List.mem_cons, List.not_mem_nil, or_false, not_or] at hbits
  refine ⟨flagMask_and_lineInts ?_, flagMask_and_lineInts ?_, flagMask_and_lineInts ?_⟩ <;>
    simp only [List.mem_cons, List.not_mem_nil, or_false, not_or] <;> tauto

/-! ### The parts of EXECUTE keep the device legal (42_execute_timers.md R150) -/

theorem legal_t1Step (hc : c.wf = true) (h : v.Legal c) : (t1Step c v).Legal c := by
  have hf := legal_setIfr_true (ints_and_lineInts hc).1 h
  have htoggle : v.pb7 ^^^ 0x80 = 0x00 ∨ v.pb7 ^^^ 0x80 = 0x80 := by
    rcases h.pb7Level with h0 | h1
    · exact .inr (by rw [h0]; rfl)
    · exact .inl (by rw [h1]; rfl)
  rcases t1Step_cases c v with ⟨_, e⟩ | ⟨_, _, e⟩ | ⟨_, _, _, e⟩ | ⟨_, _, _, _, e⟩ | ⟨_, _, _, _, e⟩ <;> rw [e]
  · exact h
  · exact h.congr rfl
  · exact (legal_setPb7 htoggle hf).congr rfl
  · exact h.congr rfl
  · exact (legal_setPb7 (.inr rfl) hf).congr rfl

theorem legal_t2Step (hc : c.wf = true) (h : v.Legal c) : (t2Step c v).Legal c := by
  rcases t2Step_cases c v with ⟨_, e⟩ | ⟨_, _, _, e⟩ | ⟨_, _, _, _, e⟩ <;> rw [e]
  · exact h
  · exact h.congr rfl
  · exact (legal_setIfr_true (ints_and_lineInts hc).2.1 h).congr rfl

/-- A bit is counted only while the unit is enabled and the count below 8, and the eighth stops the unit
(43_shift_register.md R177, R179; 92 D14). -/
theorem legal_srUpdate (hc : c.wf = true) (l : Bool) (h : v.Legal c) : (srUpdate c l v).Legal c := by
  rcases srUpdate_cases c l v with ⟨_, e⟩ | ⟨hen, _, h7, e⟩ | ⟨_, _, _, e⟩ <;> rw [e]
  · exact h
  · have hlt : v.shift.shifted + 1 < 8 := by have := h.shiftedActive hen; omega
    exact (legal_shift (u := { v.shift with shifted := v.shift.shifted + 1 }) hlt.le (fun _ => hlt) h).congr rfl
  · have hf := legal_setIfr_true (ints_and_lineInts hc).2.2 h
    exact (legal_shift (u := { v.shift with shifted := 8, enabled := false }) le_rfl nofun hf).congr rfl

theorem legal_srClock (hc : c.wf = true) (h : v.Legal c) : (srClock c v).Legal c := by
  unfold srClock
  split
  · exact legal_srUpdate hc _ (h.congr rfl)
  · exact h

theorem legal_executeDevice (hc : c.wf = true) (h : v.Legal c) : (executeDevice c v).Legal c := by
  have hclock : (srClock c (t2Step c (t1Step c v))).Legal c := legal_srClock hc (legal_t2Step hc (legal_t1Step hc h))
  have hrestore : (pulseRestore c (deviceAtObserve c v)).Legal c := hclock.congr rfl
  exact legal_clkSucc hrestore

/-! ### Every operation, and every step, keeps the device legal -/

/-- The shift register's restart by an access of slot SR: the flag cleared, the count at 0, shifting enabled. -/
theorem legal_shiftRestart (h : v.Legal c) :
    { setIfr c.srInt false v with shift := { v.shift with shifted := 0, enabled := true } }.Legal c :=
  legal_shift (Nat.zero_le 8) (fun _ => Nat.zero_lt_succ 7) (legal_setIfr_false c.srInt h)

theorem legal_deviceAfter (hc : c.wf = true) (h : v.Legal c) (i : Instr) : (deviceAfter c v i).Legal c := by
  cases i
  case wT1ch d => exact legal_setIfr_false _ (legal_setPb7 (.inl rfl) (h.congr rfl))
  case wT2ch d => exact legal_setIfr_false _ (h.congr rfl)
  case wSr d => exact (legal_shiftRestart h).congr rfl
  case wIfr d => exact legal_setIfr_false _ h
  case rT1cl => exact legal_setIfr_false _ (legal_setPb7 (.inr rfl) (h.congr rfl))
  case rT2cl => exact legal_setIfr_false _ (h.congr rfl)
  case rSr => exact legal_shiftRestart h
  case execute => exact legal_executeDevice hc h
  case reset => exact legal_reset c
  all_goals exact h.congr rfl

end

theorem exec_keeps_legal {i : Instr} {s t : State} (hs : s.Legal) (h : exec i s = .next t) : t.Legal := by
  obtain ⟨e, r, rfl⟩ := exec_next h
  exact ⟨hs.1, legal_deviceAfter hs.1 hs.2 i⟩

/-- Settles O42: an idle step changes nothing, and taking an operation from the queue touches neither the parameters nor
the device, so the operation runs in a legal state. -/
theorem legalStatesStayLegal : Obligations.LegalStatesStayLegal := by
  intro s t hs h
  rcases step_cases s t h with ⟨_, rfl⟩ | ⟨o, rest, i, _, _, he⟩
  · exact hs
  · exact exec_keeps_legal (s := { s with pending := rest }) hs he

end Sys2Proof.Machine
end

section
/-! Proofs for 20_memory.md: what a read returns after a write of the same slot. -/

namespace Sys2Proof

@[simp] theorem hiByte_pairBytes (hi lo : Byte) : hiByte (pairBytes hi lo) = hi :=
  BitVec.extractLsb'_append_eq_left

namespace Machine

/-- Every bus read answers a next state, whose result is what the slot shows in the state before it. READ ORA moves CA2
first, on which the port-A value does not depend (44_port_io_handshake.md R192). -/
theorem exec_readInstr_result (sl : Slot) (s : State) :
    ∃ u, exec (readInstr sl) s = .next u ∧
      u.result = .byte (slotView (effA s.dev s.env).1 (effB s.cfg s.dev s.env).1 s.dev sl) := by
  cases sl <;> exact ⟨_, rfl, rfl⟩

/-- After a write, each of R66's nine slots shows the byte written: seven are stored verbatim, and the high bytes of the
counters are loaded from it (41_register_write.md R135, R139). -/
theorem slotView_deviceAfter_writeInstr {sl : Slot}
    (h : sl ∈ [Slot.ddrb, .ddra, .acr, .pcr, .sr, .t1ll, .t1lh, .t1ch, .t2ch])
    (portA portB x : Byte) (c : Config) (v : Device) :
    slotView portA portB (deviceAfter c v (writeInstr x sl)) sl = x := by
  cases sl
  case t1ch => exact hiByte_pairBytes x v.t1ll
  case t2ch => exact hiByte_pairBytes x v.t2cl
  case ddrb | ddra | acr | pcr | sr | t1ll | t1lh => rfl
  case orb | ora | t1cl | t2cl | ifr | ier | oraNoHandshake => exact absurd h (by decide)

/-- Settles O41: the read returns what the slot shows in the state that the write leaves. -/
theorem writtenBytesReadBack : Obligations.WrittenBytesReadBack := by
  intro sl x s hsl
  obtain ⟨e, r, hwrite⟩ := exec_eq_next (writeInstr x sl) s
  obtain ⟨u, hread, hresult⟩ :=
    exec_readInstr_result sl { s with dev := deviceAfter s.cfg s.dev (writeInstr x sl), env := e, result := r }
  refine ⟨_, u, hwrite, hread, hresult.trans ?_⟩
  rw [slotView_deviceAfter_writeInstr hsl]

end Machine
end Sys2Proof
end

section
/-! Proofs for 30_encoding.md: the fields of a trace word that decoding looks at, the encoder's words, and the codes of
the default layouts. -/

namespace Sys2Proof

/-! ### What the decoder looks at, by op code (R82, R92, R97) -/

section
variable {m : RegMap} {w : TraceWord} {b : Beside}

/-- A WRITE: `rs` and `d` name the operation. -/
theorem decode_of_opField_zero (h : opField w = 0) :
    decode m w b = .instr (writeInstr (dField w) (m.slotAt (rsField w))) := by
  simp [decode, h]

/-- A READ: `rs` alone names the operation. -/
theorem decode_of_opField_one (h : opField w = 1) : decode m w b = .instr (readInstr (m.slotAt (rsField w))) := by
  simp [decode, h]

/-- Of the other op codes the op code alone is decoded. -/
theorem decode_eq_of_opField_eq {w' : TraceWord} (h : 2 ≤ (opField w).toNat) (hop : opField w = opField w') :
    decode m w b = decode m w' b := by
  unfold decode
  rw [← hop]
  split
  case h_1 | h_2 => omega
  all_goals rfl

/-- Op codes 12 to 15 name no operation. -/
theorem decode_of_twelve_le_opField (h : 12 ≤ (opField w).toNat) :
    decode m w b = .rejected (.reservedOpcode (opField w)) := by
  unfold decode
  split
  case h_13 => rfl
  all_goals omega

end

/-! ### Decoding what the encoder writes (R82, R84) -/

theorem decode_encodeWrite {m : RegMap} (hm : m.wf = true) (sl : Slot) (d : Byte) :
    decode m (encodeWrite m sl d).word (encodeWrite m sl d).beside = .instr (writeInstr d sl) := by
  simp [encodeWrite, decode_of_opField_zero, slotAt_address m hm]

theorem decode_encodeRead {m : RegMap} (hm : m.wf = true) (sl : Slot) :
    decode m (encodeRead m sl).word (encodeRead m sl).beside = .instr (readInstr sl) := by
  simp [encodeRead, decode_of_opField_one, slotAt_address m hm]

theorem wf_setPaCb (f : Option PortCallback) : (Instr.setPaCb f).wf = f.all PortCallback.wf := by cases f <;> rfl

theorem wf_setPbCb (f : Option PortCallback) : (Instr.setPbCb f).wf = f.all PortCallback.wf := by cases f <;> rfl

/-- No function, or a law that is one (R218, R219), is read back from beside the word. -/
theorem decodePortOperand_besidePort (mk : Option PortCallback → Instr) {f : Option PortCallback}
    (hf : f.all PortCallback.wf = true) : decodePortOperand mk (besidePort f) = .instr (mk f) := by
  cases f with
  | none => rfl
  | some g => exact if_pos hf

theorem decodeSinkOperand_besideSink (f : Option SinkRef) :
    decodeSinkOperand (besideSink f) = .instr (.setUpdCb f) := by
  cases f <;> rfl

/-! ### The codes of the default layouts (R87, R90; 43_shift_register.md R170) -/

/-- The mode that a 3-bit shift code names. -/
def srModeOfCode (f : BitVec 3) : SrMode :=
  match f.toNat with
  | 0 => .disabled
  | 1 => .inT2
  | 2 => .inPhi2
  | 3 => .inExt
  | 4 => .outFree
  | 5 => .outT2
  | 6 => .outPhi2
  | _ => .outExt

/-- The clock class of a 3-bit shift code. -/
def srClassOfCode (f : BitVec 3) : SrClass :=
  match f.toNat with
  | 0 => .disabled
  | 2 | 6 => .phi2
  | 3 | 7 => .ext
  | _ => .t2

/-- The line mode that a 3-bit code names. -/
def lineModeOfCode (f : BitVec 3) : LineMode :=
  match f.toNat with
  | 0 => .inputNegEdge
  | 1 => .independentNegEdge
  | 2 => .inputPosEdge
  | 3 => .independentPosEdge
  | 4 => .handshakeOutput
  | 5 => .pulseOutput
  | 6 => .fixedLow
  | _ => .fixedHigh

theorem default_srModes : ∀ f : BitVec 3, AcrLayout.default.srModes[f.toNat] = srModeOfCode f := by decide

theorem default_srClasses : ∀ f : BitVec 3, Config.default.classOf (srModeOfCode f) = srClassOfCode f := by decide

theorem default_lineModes : ∀ f : BitVec 3, PcrLayout.default.lineModes[f.toNat] = lineModeOfCode f := by decide

theorem srMode_eq_srModeOfCode (r : Byte) : Config.default.srMode r = srModeOfCode (r.extractLsb' 2 3) := by
  rw [srMode_default _ rfl, default_srModes]

theorem srClass_eq_srClassOfCode (r : Byte) : Config.default.srClass r = srClassOfCode (r.extractLsb' 2 3) := by
  rw [Config.srClass, srMode_eq_srModeOfCode, default_srClasses]

theorem ca2Mode_eq_lineModeOfCode (r : Byte) : Config.default.ca2Mode r = lineModeOfCode (r.extractLsb' 1 3) := by
  rw [ca2Mode_default _ rfl, default_lineModes]

theorem cb2Mode_eq_lineModeOfCode (r : Byte) : Config.default.cb2Mode r = lineModeOfCode (r.extractLsb' 5 3) := by
  rw [cb2Mode_default _ rfl, default_lineModes]

namespace Machine

/-- Settles O48: a bus operation finds its slot again at the address that the map gives it, a registration its function
beside the word, and the word of every other operation is its op code alone. -/
theorem decodingAnEncodedOperationGivesItBack : Obligations.DecodingAnEncodedOperationGivesItBack := by
  intro m i hm hi
  cases i
  case wOrb d | wOra d | wDdrb d | wDdra d | wT1cl d | wT1ch d | wT1ll d | wT1lh d | wT2cl d | wT2ch d | wSr d | wAcr d
      | wPcr d | wIfr d | wIer d | wOraNoHandshake d =>
    exact decode_encodeWrite hm _ d
  case rOrb | rOra | rDdrb | rDdra | rT1cl | rT1ch | rT1ll | rT1lh | rT2cl | rT2ch | rSr | rAcr | rPcr | rIfr | rIer
      | rOraNoHandshake =>
    exact decode_encodeRead hm _
  case setPaCb f => simpa [encode, encodeHost, decode] using decodePortOperand_besidePort _ (wf_setPaCb f ▸ hi)
  case setPbCb f => simpa [encode, encodeHost, decode] using decodePortOperand_besidePort _ (wf_setPbCb f ▸ hi)
  case setUpdCb f => simpa [encode, encodeHost, decode] using decodeSinkOperand_besideSink f
  case execute | reset | getIrq | getRegState | getTimer1 | getTimer2 | getSr => simp [encode, encodeHost, decode]

/-- Settles O50: a READ is decoded from `op` and `rs`, and an op code from 2 on alone. -/
theorem decodingIgnoresTheUnusedFields : Obligations.DecodingIgnoresTheUnusedFields := by
  intro m w w' b hop hrs h0
  change opField w = opField w' at hop
  change opField w = 1 → rsField w = rsField w' at hrs
  change opField w ≠ 0 at h0
  by_cases h1 : opField w = 1
  · rw [decode_of_opField_one h1, decode_of_opField_one (hop ▸ h1), hrs h1]
  · have h2 : 2 ≤ (opField w).toNat := by bv_omega
    exact decode_eq_of_opField_eq h2 hop

/-! ### Steps that run no operation -/

/-- Nothing issued, nothing changed (R11). -/
theorem step_of_pending_nil {s : State} (hp : s.pending = []) : step s = .next s := by
  simp only [step, fetch, hp]

/-- A word that does not decode is refused by the name of its defect. -/
theorem step_of_decode_rejected {s : State} {o : Issue} {rest : List Issue} {e : DecodeError}
    (hp : s.pending = o :: rest) (hd : decode s.cfg.regmap o.word o.beside = .rejected e) :
    step s = .refused (refusalOf e) := by
  simp only [step, fetch, hp, hd]

/-- Settles O47: the queue is empty, or its oldest word is one that the decoder rejects by its op code. -/
theorem stepIdlesOrRefusesReservedCodes : Obligations.StepIdlesOrRefusesReservedCodes := fun _ =>
  ⟨step_of_pending_nil, fun _ _ hp hop => step_of_decode_rejected hp (decode_of_twelve_le_opField hop)⟩

/-- Settles O49: the nine words, decoded under the default register map. -/
theorem theSpecsTraceWordsDecode : Obligations.TheSpecsTraceWordsDecode := by
  unfold Obligations.TheSpecsTraceWordsDecode
  decide

/-- Settles O51: the fields of a byte by the layouts' bits and codes; the masks and positions are constants. -/
theorem defaultLayoutsPlaceTheFields : Obligations.DefaultLayoutsPlaceTheFields := by
  refine ⟨fun r => ⟨pb7Control_default _ rfl r, t1IsContinuous_default _ rfl r, t2CountsPulses_default _ rfl r,
    shiftsOut_default _ rfl r, srMode_eq_srModeOfCode r, srClass_eq_srClassOfCode r, ca2Mode_eq_lineModeOfCode r,
    cb2Mode_eq_lineModeOfCode r⟩, ?_⟩
  decide

end Machine

end Sys2Proof
end

section
/-! Proofs for 40_register_read.md: each bus access as one equation, what a callback answers, what no access does. -/

namespace Sys2Proof.Machine

/-! ### A bus access as one equation -/

/-- The environment after a READ of the slot: a data-register slot evaluates its port once, no other slot calls anything
(44_port_io_handshake.md R191, R193). -/
def envAfterRead (s : State) : Slot → Env
  | .orb => (effB s.cfg s.dev s.env).2
  | .ora | .oraNoHandshake => (effA s.dev s.env).2
  | _ => s.env

/-- A READ returns what the slot shows; `deviceAfter` and `envAfterRead` are its side effects. -/
theorem exec_readInstr (sl : Slot) (s : State) :
    exec (readInstr sl) s = .next { s with
      dev := deviceAfter s.cfg s.dev (readInstr sl)
      env := envAfterRead s sl
      result := .byte (slotView (effA s.dev s.env).1 (effB s.cfg s.dev s.env).1 s.dev sl) } := by
  cases sl <;> rfl

/-- A WRITE returns nothing and leaves the environment alone (41_register_write.md R146). -/
theorem exec_writeInstr (d : Byte) (sl : Slot) (s : State) :
    exec (writeInstr d sl) s =
      .next { s with dev := deviceAfter s.cfg s.dev (writeInstr d sl), result := .nothing } := by
  cases sl <;> rfl

/-! ### What no bus access does (R126, R146) -/

theorem and_and_not_self (f m : FlagSet) : (f &&& m) &&& ~~~ f = 0 := by
  rw [BitVec.and_comm f, BitVec.and_assoc, BitVec.and_not_self]
  exact BitVec.and_zero

/-- A READ clears one flag or none. -/
theorem deviceAfter_readInstr_sets_no_flag (c : Config) (v : Device) (sl : Slot) :
    (deviceAfter c v (readInstr sl)).ifr &&& ~~~ v.ifr = 0 := by
  cases sl
  case t1cl | t2cl | sr => exact and_and_not_self _ _
  all_goals exact BitVec.and_not_self _

/-- A WRITE clears flags or leaves them. -/
theorem deviceAfter_writeInstr_sets_no_flag (c : Config) (v : Device) (d : Byte) (sl : Slot) :
    (deviceAfter c v (writeInstr d sl)).ifr &&& ~~~ v.ifr = 0 := by
  cases sl
  case t1ch | t2ch | sr | ifr => exact and_and_not_self _ _
  all_goals exact BitVec.and_not_self _

/-- The elements that the READ of some slot writes; every other element is as before. -/
theorem deviceAfter_readInstr_frame (c : Config) (v : Device) (sl : Slot) :
    let w := deviceAfter c v (readInstr sl)
    w = { v with
      t1 := { v.t1 with enabled := w.t1.enabled }, t2 := { v.t2 with enabled := w.t2.enabled }
      shift := { w.shift with counter := v.shift.counter }
      pb7 := w.pb7, ifr := w.ifr, ca2State := w.ca2State } := by
  cases sl <;> rfl

/-- The elements of time, of the shift clock and of the control inputs, which no WRITE writes. -/
theorem deviceAfter_writeInstr_frame (c : Config) (v : Device) (d : Byte) (sl : Slot) :
    let w := deviceAfter c v (writeInstr d sl)
    w.shift.counter = v.shift.counter ∧ w.cb1StateSr = v.cb1StateSr ∧ w.cb2StateSr = v.cb2StateSr ∧
      w.ca1State = v.ca1State ∧ w.cb1State = v.cb1State ∧ w.clk = v.clk := by
  cases sl <;> exact ⟨rfl, rfl, rfl, rfl, rfl, rfl⟩

/-- Settles O40: the frames of a READ and of a WRITE, slot by slot, and that neither sets a flag. -/
theorem busAccessesTakeNoTimeAndSetNoFlag : Obligations.BusAccessesTakeNoTimeAndSetNoFlag := fun sl d s =>
  ⟨⟨_, exec_readInstr sl s, deviceAfter_readInstr_frame s.cfg s.dev sl,
      deviceAfter_readInstr_sets_no_flag s.cfg s.dev sl⟩,
    ⟨_, exec_writeInstr d sl s, rfl, deviceAfter_writeInstr_sets_no_flag s.cfg s.dev d sl,
      deviceAfter_writeInstr_frame s.cfg s.dev d sl⟩⟩

/-! ### The updates at the default layouts (30_encoding.md R86 to R88) -/

section
variable {c : Config}

/-- The Timer 1 flag is at bit 6. -/
theorem setIfr_t1Int_false (h : c.ifrBits = FlagBits.default) (v : Device) :
    setIfr c.t1Int false v = { v with ifr := v.ifr &&& 0x3F } := by
  rw [t1Int_default c h]
  rfl

/-- The Timer 2 flag is at bit 5. -/
theorem setIfr_t2Int_false (h : c.ifrBits = FlagBits.default) (v : Device) :
    setIfr c.t2Int false v = { v with ifr := v.ifr &&& 0x5F } := by
  rw [t2Int_default c h]
  rfl

/-- The shift register's flag is at bit 2. -/
theorem setIfr_srInt_false (h : c.ifrBits = FlagBits.default) (v : Device) :
    setIfr c.srInt false v = { v with ifr := v.ifr &&& 0x7B } := by
  rw [srInt_default c h]
  rfl

/-- Timer 1's control of PB7 is `ACR[7]`. -/
theorem setPb7_default (h : c.acrLayout = AcrLayout.default) (l : Byte) (v : Device) :
    setPb7 c l v = { v with pb7 := if v.acr.getLsbD 7 then l else v.pb7 } := by
  rw [setPb7, pb7Control_default c h]

/-- `HS_ACCESS_MODES` at its default holds the modes of the codes 0b100 and 0b101 (R87, R196). -/
theorem movesOnAccess_default (h : c.hsAccessModes = [.handshakeOutput, .pulseOutput]) (f : BitVec 3) :
    c.movesOnAccess PcrLayout.default.lineModes[f.toNat] = movesCode f := by
  rw [Config.movesOnAccess, h]
  revert f
  decide

/-- A port-A access moves CA2 by the code of `PCR[3:1]`. -/
theorem accessCa2_default (hpcr : c.pcrLayout = PcrLayout.default)
    (hacc : c.hsAccessModes = [.handshakeOutput, .pulseOutput]) (l : Bool) (v : Device) :
    accessCa2 c l v = { v with ca2State := if movesCode (v.pcr.extractLsb' 1 3) then l else v.ca2State } := by
  rw [accessCa2, ca2Mode_default c hpcr, movesOnAccess_default hacc]

end

/-! ### The reads that call nothing -/

/-- Settles O1: these eight slots show a stored byte or a counter's high byte, and their READ has no side effect. -/
theorem plainReadsReturnTheByteAndChangeNothing : Obligations.PlainReadsReturnTheByteAndChangeNothing := fun s =>
  ⟨exec_readInstr .ddrb s, exec_readInstr .ddra s, exec_readInstr .t1ch s, exec_readInstr .t1ll s,
    exec_readInstr .t1lh s, exec_readInstr .t2ch s, exec_readInstr .acr s, exec_readInstr .pcr s⟩

/-- Settles O2: the enable is dropped, `PB7` driven and the flag at bit 6 cleared, in one update. -/
theorem readT1clStopsTimer1AndClearsItsFlag : Obligations.ReadT1clStopsTimer1AndClearsItsFlag := by
  rintro s ⟨hifr, hacr, -⟩
  refine (exec_readInstr .t1cl s).trans ?_
  simp only [readInstr, deviceAfter, setIfr_t1Int_false hifr, setPb7_default hacr]
  rfl

/-- Settles O3: the enable is dropped and the flag at bit 5 cleared. -/
theorem readT2clStopsTimer2AndClearsItsFlag : Obligations.ReadT2clStopsTimer2AndClearsItsFlag := by
  rintro s ⟨hifr, -, -⟩
  refine (exec_readInstr .t2cl s).trans ?_
  simp only [readInstr, deviceAfter, setIfr_t2Int_false hifr]
  rfl

/-- Settles O4: the flag at bit 2 is cleared and the unit restarted, with `SR` and its sub-counter kept. -/
theorem readSrRestartsShiftingAndKeepsTheByte : Obligations.ReadSrRestartsShiftingAndKeepsTheByte := by
  rintro s ⟨hifr, -, -⟩
  refine (exec_readInstr .sr s).trans ?_
  simp only [readInstr, deviceAfter, setIfr_srInt_false hifr]
  rfl

/-- The composed byte with bit 7 at 1 is the mask 0x80 over the seven bits. -/
theorem withBit7_true (f : FlagSet) : withBit7 true f = 0x80 ||| f.setWidth 8 := by
  revert f
  decide

/-- Settles O5: slot IER shows its seven bits under a bit 7 that is always 1. -/
theorem readIerForcesBit7 : Obligations.ReadIerForcesBit7 := by
  intro s
  rw [← withBit7_true]
  exact exec_readInstr .ier s

/-! ### What a callback answers (10_state.md R41) -/

/-- A law that is a function answers a row's byte for that row's arguments. -/
theorem lawAnswer_of_mem {other b : Byte} {args : Byte × Byte} {rows : List ((Byte × Byte) × Byte)}
    (hn : (rows.map (·.1)).Nodup) (hb : (args, b) ∈ rows) : lawAnswer other args rows = b := by
  induction rows with
  | nil => simp at hb
  | cons row rows ih =>
    obtain ⟨hnew, hrest⟩ := List.nodup_cons.1 hn
    rcases List.mem_cons.1 hb with rfl | hb
    · exact if_pos rfl
    · have hne : row.1 ≠ args := fun e => hnew (List.mem_map.2 ⟨_, hb, e.symm⟩)
      exact (if_neg hne).trans (ih hrest hb)

/-- A law with no row for the arguments answers its default. -/
theorem lawAnswer_of_not_mem {other : Byte} {args : Byte × Byte} {rows : List ((Byte × Byte) × Byte)}
    (hb : ∀ b, (args, b) ∉ rows) : lawAnswer other args rows = other := by
  induction rows with
  | nil => rfl
  | cons row rows ih =>
    have hne : row.1 ≠ args := fun e => hb row.2 (e ▸ List.mem_cons_self)
    exact (if_neg hne).trans (ih fun b h => hb b (List.mem_cons_of_mem row h))

/-- The model's answer is one that the statements allow: the law's, where the callback is a law that is a function. -/
theorem answers_callbackAnswer (p : Port) (draw : Nat) (direction output : Byte) (f : PortCallback) :
    answers f direction output (callbackAnswer p draw direction output f) := by
  rintro rows other rfl hwf
  have hn : (rows.map (·.1)).Nodup := (distinct_iff_nodup _).1 hwf
  exact ⟨fun _ => lawAnswer_of_mem hn, lawAnswer_of_not_mem⟩

/-! ### One evaluation of a port (44_port_io_handshake.md R190 to R194) -/

/-- A registered port-A callback is called once, with the mask first and the stored byte second (R191). -/
theorem portAIn_registered (v : Device) {e : Env} {f : PortCallback} (h : e.portACb = some f) :
    portAIn v e =
      (callbackAnswer .a e.drawsA v.ddra v.ora f,
        { e with
          drawsA := e.drawsA + 1
          calls := .portA v.ddra v.ora (callbackAnswer .a e.drawsA v.ddra v.ora f) :: e.calls }) := by
  simp only [portAIn, h]

/-- A registered port-B callback, likewise (R193). -/
theorem portBIn_registered (v : Device) {e : Env} {f : PortCallback} (h : e.portBCb = some f) :
    portBIn v e =
      (callbackAnswer .b e.drawsB v.ddrb v.orb f,
        { e with
          drawsB := e.drawsB + 1
          calls := .portB v.ddrb v.orb (callbackAnswer .b e.drawsB v.ddrb v.orb f) :: e.calls }) := by
  simp only [portBIn, h]

/-- `portAIn` is an evaluation of port A in the statements' sense. -/
theorem portAEvaluates_portAIn (s : State) :
    s.PortAEvaluates (portAIn s.dev s.env).1 (portAIn s.dev s.env).2 := by
  unfold State.PortAEvaluates
  cases h : s.env.portACb with
  | none => exact Prod.ext_iff.1 (portAIn_absent s.dev s.env h)
  | some f =>
    rw [portAIn_registered s.dev h]
    exact ⟨answers_callbackAnswer .a _ _ _ f, rfl⟩

/-- `portBIn` is an evaluation of port B in the statements' sense. -/
theorem portBEvaluates_portBIn (s : State) :
    s.PortBEvaluates (portBIn s.dev s.env).1 (portBIn s.dev s.env).2 := by
  unfold State.PortBEvaluates
  cases h : s.env.portBCb with
  | none => exact Prod.ext_iff.1 (portBIn_absent s.dev s.env h)
  | some f =>
    rw [portBIn_registered s.dev h]
    exact ⟨answers_callbackAnswer .b _ _ _ f, rfl⟩

/-- The effective port-B value at the default ACR layout (R194). -/
theorem effB_fst_eq_portBView {s : State} (h : s.cfg.acrLayout = AcrLayout.default) :
    (effB s.cfg s.dev s.env).1 = s.portBView (portBIn s.dev s.env).1 s.dev.pb7 := by
  rw [effB, drivePb7, pb7Control_default _ h]
  rfl

/-- With nothing driving the inputs the merge is the driven outputs alone. -/
@[simp] theorem mergePort_zero (output direction : Byte) : mergePort output direction 0x00 = output &&& direction := by
  simp [mergePort]

/-! ### The reads of the data registers -/

/-- Settles O7: the one evaluation of port B, seen through Timer 1's drive of bit 7. -/
theorem readOrbReturnsTheEffectiveValue : Obligations.ReadOrbReturnsTheEffectiveValue := by
  rintro s ⟨-, hacr, -⟩
  refine ⟨_, _, portBEvaluates_portBIn s, ?_⟩
  rw [← effB_fst_eq_portBView hacr]
  exact exec_readInstr .orb s

/-- Settles O8: without a callback the merge of `ORA` with 0, else of `ORA` with the callback's one answer. -/
theorem readOraNoHandshakeCallsPortAOnce : Obligations.ReadOraNoHandshakeCallsPortAOnce := by
  intro s
  have hread := exec_readInstr .oraNoHandshake s
  simp only [readInstr, deviceAfter, envAfterRead, slotView, effA] at hread
  refine ⟨fun hnone => ?_, fun f hf => ⟨_, ?_, answers_callbackAnswer .a s.env.drawsA _ _ f⟩⟩
  · rw [hread, portAIn_absent _ _ hnone, mergePort_zero]
  · rw [hread, portAIn_registered _ hf]
    rfl

/-- Settles O9: CA2 moves first, and the port-A value does not depend on it. -/
theorem readOraLowersCa2InTheAccessModes : Obligations.ReadOraLowersCa2InTheAccessModes := by
  rintro s ⟨-, -, hpcr⟩ hacc
  refine ⟨_, _, portAEvaluates_portAIn s, (exec_readInstr .ora s).trans ?_⟩
  simp only [readInstr, deviceAfter, accessCa2_default hpcr hacc]
  rfl

end Sys2Proof.Machine
end

section
/-! Proofs for 41_register_write.md: what each WRITE makes of the device, by `exec_writeInstr` and the updates at the
default layouts. -/

namespace Sys2Proof

/-- `b[6:0]` is the byte cut to seven bits. -/
theorem low7_eq_setWidth (b : Byte) : low7 b = b.setWidth 7 := (BitVec.setWidth_eq_extractLsb' (by decide)).symm

/-- Bit 7 of the byte is not among the seven. -/
theorem low7_and_0x7F (b : Byte) : low7 (b &&& 0x7F) = b.setWidth 7 := by
  have hand : low7 (b &&& 0x7F) = low7 b &&& low7 0x7F := BitVec.extractLsb'_and
  have hones : low7 0x7F = BitVec.allOnes 7 := by decide
  rw [hand, hones, BitVec.and_allOnes, low7_eq_setWidth]

namespace Machine

/-! ### The updates that only writes make -/

/-- `set_ifr` with value 0 ignores bit 7 of its mask (60_exceptions.md R232; 92 D33). -/
theorem setIfr_and_0x7F_false (d : Byte) (v : Device) :
    setIfr (d &&& 0x7F) false v = { v with ifr := v.ifr &&& ~~~ d.setWidth 7 } := by
  simp only [setIfr, low7_and_0x7F, Bool.false_eq_true, if_false]

/-- `set_ier` by its data byte (R233). -/
theorem setIer_eq (d : Byte) (v : Device) :
    setIer d v =
      { v with ier := if d.getLsbD 7 then v.ier ||| d.setWidth 7 else v.ier &&& ~~~ d.setWidth 7 } := by
  rw [setIer, low7_eq_setWidth]

/-- The fixed-output-low mode is code 0b110 (30_encoding.md R87). -/
theorem pcrWriteLevel_default (f : BitVec 3) :
    pcrWriteLevel PcrLayout.default.lineModes[f.toNat] = if f = 0b110 then false else true := by
  revert f
  decide

/-- A port-B access moves CB2 by the code of `PCR[7:5]`. -/
theorem accessCb2_default {c : Config} (hpcr : c.pcrLayout = PcrLayout.default)
    (hacc : c.hsAccessModes = [.handshakeOutput, .pulseOutput]) (l : Bool) (v : Device) :
    accessCb2 c l v = { v with cb2State := if movesCode (v.pcr.extractLsb' 5 3) then l else v.cb2State } := by
  rw [accessCb2, cb2Mode_default c hpcr, movesOnAccess_default hacc]

/-! ### The writes of the direction registers, the latches and ACR -/

/-- Settles O10: each of these seven slots stores the byte in one register, with no side effect. -/
theorem plainWritesStoreTheByteAndNothingElse : Obligations.PlainWritesStoreTheByteAndNothingElse := fun d s =>
  ⟨exec_writeInstr d .ddrb s, exec_writeInstr d .ddra s, exec_writeInstr d .t1cl s, exec_writeInstr d .t1ll s,
    exec_writeInstr d .t1lh s, exec_writeInstr d .acr s, exec_writeInstr d .oraNoHandshake s⟩

/-! ### The writes of the timers and of the shift register -/

/-- Settles O11: the latch and the load, then `PB7` driven and the flag at bit 6 cleared. -/
theorem writeT1chLoadsAndStartsTimer1 : Obligations.WriteT1chLoadsAndStartsTimer1 := by
  rintro d s ⟨hifr, hacr, -⟩
  refine (exec_writeInstr d .t1ch s).trans ?_
  simp only [writeInstr, deviceAfter, setIfr_t1Int_false hifr, setPb7_default hacr]
  rfl

/-- Settles O12: with the parameter set the counter takes the byte below its high byte, else it is kept. -/
theorem writeT2clStoresTheByte : Obligations.WriteT2clStoresTheByte := by
  intro d s
  refine (exec_writeInstr d .t2cl s).trans ?_
  simp only [writeInstr, deviceAfter]
  cases s.cfg.t2clWriteTouchesCounter <;> rfl

/-- Settles O13: the stored byte and the load, then the flag at bit 5 cleared. -/
theorem writeT2chLoadsAndStartsTimer2 : Obligations.WriteT2chLoadsAndStartsTimer2 := by
  rintro d s ⟨hifr, -, -⟩
  refine (exec_writeInstr d .t2ch s).trans ?_
  simp only [writeInstr, deviceAfter, setIfr_t2Int_false hifr]
  rfl

/-- Settles O14: the flag at bit 2 is cleared and the unit restarted, with its sub-counter kept. -/
theorem writeSrStoresTheByteAndRestartsShifting : Obligations.WriteSrStoresTheByteAndRestartsShifting := by
  rintro d s ⟨hifr, -, -⟩
  refine (exec_writeInstr d .sr s).trans ?_
  simp only [writeInstr, deviceAfter, setIfr_srInt_false hifr]

/-! ### The writes of PCR and of the interrupt registers -/

/-- Settles O15: both levels come from the modes of the new byte, not of the old one. -/
theorem writePcrRecomputesBothLines : Obligations.WritePcrRecomputesBothLines := by
  rintro d s ⟨-, -, hpcr⟩
  refine (exec_writeInstr d .pcr s).trans ?_
  simp only [writeInstr, deviceAfter, ca2Mode_default _ hpcr, cb2Mode_default _ hpcr, pcrWriteLevel_default]

/-- Settles O16: the flags whose data bits are 1 are cleared, whatever bit 7 of the data is. -/
theorem writeIfrClearsTheNamedFlags : Obligations.WriteIfrClearsTheNamedFlags := by
  intro d s
  rw [← setIfr_and_0x7F_false]
  exact exec_writeInstr d .ifr s

/-- Settles O17: `set_ier` of the data byte. -/
theorem writeIerSetsOrClearsByBit7 : Obligations.WriteIerSetsOrClearsByBit7 := by
  intro d s
  rw [← setIer_eq]
  exact exec_writeInstr d .ier s

/-! ### The writes of the output registers -/

/-- Settles O18: the line moves by the code of its PCR field, CB2 down and CA2 up, and the byte is stored. -/
theorem writesOfTheOutputRegistersMoveTheirLines : Obligations.WritesOfTheOutputRegistersMoveTheirLines := by
  rintro d s ⟨-, -, hpcr⟩ hacc
  refine ⟨(exec_writeInstr d .orb s).trans ?_, (exec_writeInstr d .ora s).trans ?_⟩
  · simp only [writeInstr, deviceAfter, accessCb2_default hpcr hacc]
    rfl
  · simp only [writeInstr, deviceAfter, accessCa2_default hpcr hacc]
    rfl

end Machine

end Sys2Proof
end

section
/-! Proofs for 42_execute_timers.md: EXECUTE as one equation on states, what it makes of the timers and of their flags, and
runs of EXECUTEs. -/

namespace Sys2Proof

/-! ### Setting one flag -/

/-- The mask of a flag has the flag's bit alone. -/
theorem getLsbD_low7_flagMask (i : Fin 7) (k : Nat) : (low7 (flagMask i)).getLsbD k = decide (k = i.val) := by
  have hbits : ∀ i j : Fin 7, (low7 (flagMask i)).getLsbD j.val = decide (j.val = i.val) := by decide
  by_cases hk : k < 7
  · exact hbits i ⟨k, hk⟩
  · rw [BitVec.getLsbD_of_ge _ _ (by omega), eq_comm, decide_eq_false_iff_not]
    omega

/-- A flag set under a condition, bit by bit. -/
theorem getLsbD_ite_or_flagMask (f : FlagSet) (i : Fin 7) (b : Bool) (k : Nat) :
    (if b then f ||| low7 (flagMask i) else f).getLsbD k = (f.getLsbD k || (decide (k = i.val) && b)) := by
  cases b <;> simp [getLsbD_low7_flagMask]

namespace Machine

/-! ### EXECUTE on states -/

/-- The state that an EXECUTE answers (42_execute_timers.md R150). -/
def State.afterExecute (s : State) : State :=
  { s with
    dev := executeDevice s.cfg s.dev
    env := observe s.cfg (deviceAtObserve s.cfg s.dev) s.env
    result := .nothing }

theorem exec_execute (s : State) : exec .execute s = .next s.afterExecute := rfl

theorem afterExecute_dev (s : State) : s.afterExecute.dev = executeDevice s.cfg s.dev := rfl

/-- Settles O19: the parts that `executeDevice` and the observer call are made of, in the order of R150. -/
theorem executeRunsItsPartsInOrder : Obligations.ExecuteRunsItsPartsInOrder := fun s => exec_execute s

/-! ### The steps of the timers, each as one equation -/

/-- Timer 1 after an EXECUTE: it stands, reloads in continuous mode, or counts down; the wrap in one-shot mode marks it
fired (R151 to R154). -/
def State.t1Next (s : State) : Timer :=
  if s.dev.t1.enabled = false then s.dev.t1
  else if s.dev.t1.counter = 0#16 ∧ s.dev.acr.getLsbD 6 = true then
    { s.dev.t1 with counter := s.dev.t1lh ++ s.dev.t1ll }
  else
    { s.dev.t1 with counter := s.dev.t1.counter - 1, oneShot := s.dev.t1.oneShot || s.dev.t1.counter = 0#16 }

/-- `PB7` after an EXECUTE: under PB7 control a wrap that fires toggles it in continuous mode and raises it in one-shot
mode. -/
def State.pb7Next (s : State) : Byte :=
  if s.t1Fires = true ∧ s.dev.acr.getLsbD 7 = true then
    if s.dev.acr.getLsbD 6 then s.dev.pb7 ^^^ 0x80 else 0x80
  else s.dev.pb7

/-- Timer 2 after an EXECUTE: it stands when stopped or counting pulses, else it counts down, and the wrap marks it fired
(R156, R157). -/
def State.t2Next (s : State) : Timer :=
  if s.dev.t2.enabled = false ∨ s.dev.acr.getLsbD 5 = true then s.dev.t2
  else { s.dev.t2 with counter := s.dev.t2.counter - 1, oneShot := s.dev.t2.oneShot || s.dev.t2.counter = 0#16 }

section
variable {s : State} (h : s.DefaultBits)
include h

theorem t1Step_eq : t1Step s.cfg s.dev = { s.dev with
    t1 := s.t1Next, pb7 := s.pb7Next, ifr := if s.t1Fires then s.dev.ifr ||| low7 s.cfg.t1Int else s.dev.ifr } := by
  obtain ⟨-, hacr, -⟩ := h
  have hcases := t1Step_cases s.cfg s.dev
  rw [t1IsContinuous_default _ hacr, pb7Control_default _ hacr] at hcases
  rcases hcases with ⟨he, e⟩ | ⟨he, hc, e⟩ | ⟨he, hc, hm, e⟩ | ⟨he, hc, hm, ho, e⟩ | ⟨he, hc, hm, ho, e⟩ <;>
    rw [e, State.t1Next, State.pb7Next, State.t1Fires]
  · simp [he]
  · simp [he, hc]
  · simp [-BitVec.getLsbD_eq_getElem, he, hc, hm, pairBytes]
  · simp [-BitVec.getLsbD_eq_getElem, he, hc, hm, ho]
  · simp [-BitVec.getLsbD_eq_getElem, he, hc, hm, ho]

theorem t2Step_eq : t2Step s.cfg s.dev = { s.dev with
    t2 := s.t2Next, ifr := if s.t2Fires then s.dev.ifr ||| low7 s.cfg.t2Int else s.dev.ifr } := by
  obtain ⟨-, hacr, -⟩ := h
  have hcases := t2Step_cases s.cfg s.dev
  rw [t2CountsPulses_default _ hacr] at hcases
  rcases hcases with ⟨he | hp, e⟩ | ⟨he, hp, hc | ho, e⟩ | ⟨he, hp, hc, ho, e⟩ <;> rw [e, State.t2Next, State.t2Fires]
  · simp [he]
  · simp [-BitVec.getLsbD_eq_getElem, hp]
  · simp [-BitVec.getLsbD_eq_getElem, he, hp, hc]
  · simp [-BitVec.getLsbD_eq_getElem, he, hp, ho]
  · simp [-BitVec.getLsbD_eq_getElem, he, hp, hc, ho]

theorem t1Step_ifr : (t1Step s.cfg s.dev).ifr = if s.t1Fires then s.dev.ifr ||| low7 s.cfg.t1Int else s.dev.ifr := by
  rw [t1Step_eq h]

theorem t2Step_ifr : (t2Step s.cfg s.dev).ifr = if s.t2Fires then s.dev.ifr ||| low7 s.cfg.t2Int else s.dev.ifr := by
  rw [t2Step_eq h]

theorem afterExecute_t1 : s.afterExecute.dev.t1 = s.t1Next := by
  rw [afterExecute_dev, executeDevice_t1, t1Step_eq h]

theorem afterExecute_pb7 : s.afterExecute.dev.pb7 = s.pb7Next := by
  rw [afterExecute_dev, executeDevice_pb7, t1Step_eq h]

theorem afterExecute_t2 : s.afterExecute.dev.t2 = s.t2Next := by
  rw [afterExecute_dev, executeDevice_t2, t2Step_eq h]

end

/-! ### Which flags an EXECUTE sets (60_exceptions.md R236) -/

/-- The shift clock sets the shift register's flag or none. -/
theorem srClock_ifr (c : Config) (v : Device) :
    ∃ b : Bool, (srClock c v).ifr = if b then v.ifr ||| low7 c.srInt else v.ifr := by
  unfold srClock
  split
  · rcases srUpdate_cases c (!v.cb1StateSr) { v with cb1StateSr := !v.cb1StateSr } with
      ⟨_, e⟩ | ⟨_, _, _, e⟩ | ⟨_, _, _, e⟩
    · exact ⟨false, by simp only [e]; rfl⟩
    · exact ⟨false, by simp only [e]; rfl⟩
    · exact ⟨true, by simp only [e]; rfl⟩
  · exact ⟨false, rfl⟩

section
variable {s : State} (h : s.DefaultBits)
include h

/-- An EXECUTE clears no flag, and sets none but those of the timers and the shift register. -/
theorem afterExecute_ifr : ∃ b : Bool, ∀ k, s.afterExecute.dev.ifr.getLsbD k =
    (s.dev.ifr.getLsbD k || (decide (k = 6) && s.t1Fires) || (decide (k = 5) && s.t2Fires) || (decide (k = 2) && b)) := by
  obtain ⟨b, hb⟩ := srClock_ifr s.cfg (t2Step s.cfg (t1Step s.cfg s.dev))
  have h1 := t1Step_ifr h
  have h2 := t2Step_ifr (s := { s with dev := t1Step s.cfg s.dev }) h
  have hfires : State.t2Fires { s with dev := t1Step s.cfg s.dev } = s.t2Fires := by simp [State.t2Fires]
  obtain ⟨hifr, -, -⟩ := h
  refine ⟨b, fun k => ?_⟩
  rw [afterExecute_dev, executeDevice_ifr, hb, Config.srInt, getLsbD_ite_or_flagMask, h2, hfires, Config.t2Int,
    getLsbD_ite_or_flagMask, h1, Config.t1Int, getLsbD_ite_or_flagMask, hifr]
  rfl

theorem afterExecute_ifr_t1 : s.afterExecute.dev.ifr.getLsbD 6 = (s.dev.ifr.getLsbD 6 || s.t1Fires) := by
  obtain ⟨b, hb⟩ := afterExecute_ifr h
  rw [hb]
  simp

theorem afterExecute_ifr_t2 : s.afterExecute.dev.ifr.getLsbD 5 = (s.dev.ifr.getLsbD 5 || s.t2Fires) := by
  obtain ⟨b, hb⟩ := afterExecute_ifr h
  rw [hb]
  simp

/-! ### One EXECUTE of Timer 1 -/

/-- Above 0 Timer 1 counts down and does nothing else, in either mode (R151). -/
theorem afterExecute_timer1_counts (he : s.dev.t1.enabled = true) (hc : s.dev.t1.counter ≠ 0#16) :
    s.afterExecute.dev.t1 = { s.dev.t1 with counter := s.dev.t1.counter - 1 } ∧
      s.afterExecute.dev.pb7 = s.dev.pb7 ∧ s.afterExecute.dev.ifr.getLsbD 6 = s.dev.ifr.getLsbD 6 := by
  rw [afterExecute_t1 h, afterExecute_pb7 h, afterExecute_ifr_t1 h]
  simp [State.t1Next, State.pb7Next, State.t1Fires, he, hc]

/-- The wrap of Timer 1 in continuous mode (R153). -/
theorem afterExecute_timer1_reloads (he : s.dev.t1.enabled = true) (hc : s.dev.t1.counter = 0#16)
    (hm : s.dev.acr.getLsbD 6 = true) :
    s.afterExecute.dev.t1 = { s.dev.t1 with counter := s.dev.t1lh ++ s.dev.t1ll } ∧
      s.afterExecute.dev.pb7 = (if s.dev.acr.getLsbD 7 then s.dev.pb7 ^^^ 0x80 else s.dev.pb7) ∧
      s.afterExecute.dev.ifr.getLsbD 6 = true := by
  rw [afterExecute_t1 h, afterExecute_pb7 h, afterExecute_ifr_t1 h]
  simp [-BitVec.getLsbD_eq_getElem, State.t1Next, State.pb7Next, State.t1Fires, he, hc, hm]

end

/-- Settles O20: the equations for `t1`, `PB7` and the flag, in each of the five cases. -/
theorem executeAdvancesTimer1 : Obligations.ExecuteAdvancesTimer1 := by
  intro s h
  refine ⟨_, exec_execute s, fun he => ?_, afterExecute_timer1_counts h, afterExecute_timer1_reloads h,
    fun he hc hm ho => ?_, fun he hc hm ho => ?_⟩ <;>
    rw [afterExecute_t1 h, afterExecute_pb7 h, afterExecute_ifr_t1 h]
  · simp [State.t1Next, State.pb7Next, State.t1Fires, he]
  · simp [-BitVec.getLsbD_eq_getElem, State.t1Next, State.pb7Next, State.t1Fires, he, hc, hm, ho]
  · simp [-BitVec.getLsbD_eq_getElem, State.t1Next, State.pb7Next, State.t1Fires, he, hc, hm, ho]

/-- Settles O21: the equations for `t2` and the flag, in each of the four cases. -/
theorem executeAdvancesTimer2 : Obligations.ExecuteAdvancesTimer2 := by
  intro s h hm
  refine ⟨_, exec_execute s, ?_⟩
  rw [afterExecute_t2 h, afterExecute_ifr_t2 h]
  refine ⟨fun he => ?_, fun he (hc : s.dev.t2.counter ≠ 0#16) => ?_, fun he hc ho => ?_, fun he hc ho => ?_⟩
  · simp [State.t2Next, State.t2Fires, he]
  · simp [-BitVec.getLsbD_eq_getElem, State.t2Next, State.t2Fires, hm, he, hc]
  · simp [-BitVec.getLsbD_eq_getElem, State.t2Next, State.t2Fires, hm, he, hc, ho]
  · simp [-BitVec.getLsbD_eq_getElem, State.t2Next, State.t2Fires, hm, he, hc, ho]

/-- Settles O22: the timer stands, and so cannot fire. -/
theorem pulseCountingHoldsTimer2 : Obligations.PulseCountingHoldsTimer2 := by
  intro s h hm
  refine ⟨_, exec_execute s, ?_, ?_⟩
  · simp [-BitVec.getLsbD_eq_getElem, afterExecute_t2 h, State.t2Next, hm]
  · simp [-BitVec.getLsbD_eq_getElem, afterExecute_ifr_t2 h, State.t2Fires, hm]

/-! ### The frame of EXECUTE -/

/-- The elements that EXECUTE may write; every other element is as before. -/
theorem executeDevice_frame (c : Config) (v : Device) :
    executeDevice c v = { v with
      t1 := (executeDevice c v).t1, t2 := (executeDevice c v).t2, pb7 := (executeDevice c v).pb7
      ifr := (executeDevice c v).ifr, sr := (executeDevice c v).sr, shift := (executeDevice c v).shift
      cb1StateSr := (executeDevice c v).cb1StateSr, cb2StateSr := (executeDevice c v).cb2StateSr
      ca2State := (executeDevice c v).ca2State, cb2State := (executeDevice c v).cb2State
      clk := (executeDevice c v).clk } := by
  rw [executeDevice, deviceAtObserve, srClock_frame, t2Step_frame, t1Step_frame]
  rfl

/-- Settles O28: the frames of the device and of the observer call, and the flags by `afterExecute_ifr`. -/
theorem executeLeavesTheRestAlone : Obligations.ExecuteLeavesTheRestAlone := by
  intro s h
  obtain ⟨b, hflags⟩ := afterExecute_ifr h
  have henv : s.afterExecute.env = _ := observe_frame s.cfg (deviceAtObserve s.cfg s.dev) s.env
  refine ⟨_, exec_execute s, executeDevice_frame s.cfg s.dev, fun k h6 h5 h2 => ?_, fun k hk => ?_, ?_⟩
  · simp [hflags, h6, h5, h2]
  · simp [hflags, hk]
  · rw [henv]
    exact ⟨rfl, rfl, rfl, rfl, rfl⟩

/-! ### Runs of EXECUTEs -/

theorem execAll_pseudoX (k : Nat) (s : State) : execAll (pseudoX k) s = .next (State.afterExecute^[k] s) := by
  induction k generalizing s with
  | zero => rfl
  | succ k ih => exact ih s.afterExecute

/-- A write and then EXECUTEs. -/
theorem execAll_writeInstr_pseudoX (d : Byte) (sl : Slot) (k : Nat) (s : State) :
    execAll (writeInstr d sl :: pseudoX k) s =
      .next (State.afterExecute^[k] { s with dev := deviceAfter s.cfg s.dev (writeInstr d sl), result := .nothing }) := by
  rw [execAll, exec_writeInstr]
  exact execAll_pseudoX k _

/-- What one EXECUTE keeps in every state, any number of them keeps. -/
theorem iterate_afterExecute_keeps {α : Type} {g : State → α} (hg : ∀ t : State, g t.afterExecute = g t) (k : Nat)
    (s : State) : g (State.afterExecute^[k] s) = g s := by
  induction k generalizing s with
  | zero => rfl
  | succ k ih => exact (ih _).trans (hg s)

section
variable (k : Nat) (s : State)

@[simp] theorem iterate_afterExecute_cfg : (State.afterExecute^[k] s).cfg = s.cfg :=
  iterate_afterExecute_keeps (fun _ => rfl) k s

@[simp] theorem iterate_afterExecute_acr : (State.afterExecute^[k] s).dev.acr = s.dev.acr :=
  iterate_afterExecute_keeps (g := (·.dev.acr)) (fun t => executeDevice_acr t.cfg t.dev) k s

@[simp] theorem iterate_afterExecute_t1ll : (State.afterExecute^[k] s).dev.t1ll = s.dev.t1ll :=
  iterate_afterExecute_keeps (g := (·.dev.t1ll)) (fun t => executeDevice_t1ll t.cfg t.dev) k s

@[simp] theorem iterate_afterExecute_t1lh : (State.afterExecute^[k] s).dev.t1lh = s.dev.t1lh :=
  iterate_afterExecute_keeps (g := (·.dev.t1lh)) (fun t => executeDevice_t1lh t.cfg t.dev) k s

end

@[simp] theorem iterate_afterExecute_t1_enabled (k : Nat) (s : State) :
    (State.afterExecute^[k] s).dev.t1.enabled = s.dev.t1.enabled :=
  iterate_afterExecute_keeps (g := (·.dev.t1.enabled)) (fun t => by simp [afterExecute_dev, executeDevice_t1]) k s

section
variable {s : State} (h : s.DefaultBits)
include h

theorem iterate_afterExecute_defaultBits (k : Nat) : (State.afterExecute^[k] s).DefaultBits := by
  simpa [State.DefaultBits] using h

/-! ### Runs in which a timer's flag is not set

While the counter has not passed 0, and in one-shot mode after the timer has fired, EXECUTE does nothing to a timer but
count it down. -/

/-- `k` EXECUTEs within the load, or of a fired one-shot Timer 1 (R152, R154, R155). -/
theorem iterate_afterExecute_t1_silent (he : s.dev.t1.enabled = true) (k : Nat)
    (hs : k ≤ s.dev.t1.counter.toNat ∨ (s.dev.acr.getLsbD 6 = false ∧ s.dev.t1.oneShot = true)) :
    (State.afterExecute^[k] s).dev.t1 = { s.dev.t1 with counter := s.dev.t1.counter - BitVec.ofNat 16 k } ∧
      (State.afterExecute^[k] s).dev.ifr.getLsbD 6 = s.dev.ifr.getLsbD 6 := by
  induction k with
  | zero => simp
  | succ k ih =>
    obtain ⟨ht, hf⟩ := ih (hs.imp_left (by omega))
    have hk := iterate_afterExecute_defaultBits h k
    have hcount : s.dev.t1.counter - BitVec.ofNat 16 k - 1 = s.dev.t1.counter - BitVec.ofNat 16 (k + 1) := by bv_omega
    rw [Function.iterate_succ_apply', afterExecute_t1 hk, afterExecute_ifr_t1 hk, State.t1Next, State.t1Fires, hf, ht,
      iterate_afterExecute_acr, ← hcount]
    rcases hs with hle | ⟨hm, ho⟩
    · have hne : s.dev.t1.counter - BitVec.ofNat 16 k ≠ 0#16 := by bv_omega
      simp [he, hne]
    · simp [-BitVec.getLsbD_eq_getElem, he, hm, ho]

/-- `k` EXECUTEs within the load, or of a fired Timer 2, in the timed mode (R156). -/
theorem iterate_afterExecute_t2_silent (he : s.dev.t2.enabled = true) (hm : s.dev.acr.getLsbD 5 = false) (k : Nat)
    (hs : k ≤ s.dev.t2.counter.toNat ∨ s.dev.t2.oneShot = true) :
    (State.afterExecute^[k] s).dev.t2 = { s.dev.t2 with counter := s.dev.t2.counter - BitVec.ofNat 16 k } ∧
      (State.afterExecute^[k] s).dev.ifr.getLsbD 5 = s.dev.ifr.getLsbD 5 := by
  induction k with
  | zero => simp
  | succ k ih =>
    obtain ⟨ht, hf⟩ := ih (hs.imp_left (by omega))
    have hk := iterate_afterExecute_defaultBits h k
    have hcount : s.dev.t2.counter - BitVec.ofNat 16 k - 1 = s.dev.t2.counter - BitVec.ofNat 16 (k + 1) := by bv_omega
    rw [Function.iterate_succ_apply', afterExecute_t2 hk, afterExecute_ifr_t2 hk, State.t2Next, State.t2Fires, hf, ht,
      iterate_afterExecute_acr, hm, ← hcount]
    rcases hs with hle | ho
    · have hne : s.dev.t2.counter - BitVec.ofNat 16 k ≠ 0#16 := by bv_omega
      simp [he, hne]
    · simp [he, ho]

end

/-- Settles O54: the runs of fired timers. -/
theorem firedOneShotTimersStaySilent : Obligations.FiredOneShotTimersStaySilent := by
  intro s k h
  refine ⟨_, execAll_pseudoX k s, fun he hm ho => ?_, fun he hm ho => ?_⟩
  · obtain ⟨ht, hf⟩ := iterate_afterExecute_t1_silent h he k (.inr ⟨hm, ho⟩)
    exact ⟨hf, by rw [ht, ho], by rw [ht]⟩
  · obtain ⟨ht, hf⟩ := iterate_afterExecute_t2_silent h he hm k (.inr ho)
    exact ⟨hf, by rw [ht, ho], by rw [ht]⟩

/-! ### From a load to the first flag (R155, R156) -/

/-- WRITE T1CH leaves Timer 1 loaded, running and not fired, with its flag clear (41_register_write.md R135). -/
theorem execAll_wT1ch_pseudoX (d : Byte) {s : State} (h : s.DefaultBits) :
    ∃ l : State, l.DefaultBits ∧ l.dev.t1 = ⟨d ++ s.dev.t1ll, true, false⟩ ∧ l.dev.ifr.getLsbD 6 = false ∧
      ∀ k, execAll (.wT1ch d :: pseudoX k) s = .next (State.afterExecute^[k] l) := by
  refine ⟨_, ?_, ?_, ?_, fun k => execAll_writeInstr_pseudoX d .t1ch k s⟩
  · exact h
  · rfl
  · simp [writeInstr, deviceAfter, setIfr_t1Int_false h.1]

/-- WRITE T2CH leaves Timer 2 loaded, running and not fired, with its flag clear (R139). -/
theorem execAll_wT2ch_pseudoX (d : Byte) {s : State} (h : s.DefaultBits) :
    ∃ l : State, l.DefaultBits ∧ l.dev.acr = s.dev.acr ∧ l.dev.t2 = ⟨d ++ s.dev.t2cl, true, false⟩ ∧
      l.dev.ifr.getLsbD 5 = false ∧ ∀ k, execAll (.wT2ch d :: pseudoX k) s = .next (State.afterExecute^[k] l) := by
  refine ⟨_, ?_, ?_, ?_, ?_, fun k => execAll_writeInstr_pseudoX d .t2ch k s⟩
  · exact h
  · rfl
  · rfl
  · simp [writeInstr, deviceAfter, setIfr_t2Int_false h.1]

theorem toNat_sub_ofNat_of_le {n : Word} {k : Nat} (hk : k ≤ n.toNat) : (n - BitVec.ofNat 16 k).toNat = n.toNat - k := by
  bv_omega

/-- Settles O52: `N` EXECUTEs only count down, and the next one finds the counter at 0 and the timer not fired. -/
theorem timer1FlagComesAtTheNextExecuteAfterZero : Obligations.Timer1FlagComesAtTheNextExecuteAfterZero := by
  intro d s h
  obtain ⟨l, hl, ht, hf, hrun⟩ := execAll_wT1ch_pseudoX d h
  have hsilent (k : Nat) (hk : k ≤ (d ++ s.dev.t1ll : Word).toNat) :=
    iterate_afterExecute_t1_silent hl (by rw [ht]) k (.inl (by rwa [ht]))
  refine ⟨fun k hk => ⟨_, hrun k, ?_, ?_⟩, _, hrun _, ?_⟩
  · rw [(hsilent k hk).1, ht, toNat_sub_ofNat_of_le hk]
  · rw [(hsilent k hk).2, hf]
  · rw [Function.iterate_succ_apply', afterExecute_ifr_t1 (iterate_afterExecute_defaultBits hl _), State.t1Fires,
      (hsilent _ le_rfl).1, ht]
    simp

/-- Settles O55: the same of Timer 2, whose counter goes on from 0 to 0xFFFF. -/
theorem timer2FlagComesAtTheNextExecuteAfterZero : Obligations.Timer2FlagComesAtTheNextExecuteAfterZero := by
  intro d s h hm
  obtain ⟨l, hl, hacr, ht, hf, hrun⟩ := execAll_wT2ch_pseudoX d h
  rw [← hacr] at hm
  have hsilent (k : Nat) (hk : k ≤ (d ++ s.dev.t2cl : Word).toNat) :=
    iterate_afterExecute_t2_silent hl (by rw [ht]) hm k (.inl (by rwa [ht]))
  refine ⟨fun k hk => ⟨_, hrun k, ?_, ?_⟩, _, hrun _, ?_⟩
  · rw [(hsilent k hk).1, ht, toNat_sub_ofNat_of_le hk]
  · rw [(hsilent k hk).2, hf]
  · have hbits := iterate_afterExecute_defaultBits hl (d ++ s.dev.t2cl : Word).toNat
    rw [Function.iterate_succ_apply', afterExecute_ifr_t2 hbits, afterExecute_t2 hbits, State.t2Next, State.t2Fires,
      (hsilent _ le_rfl).1, ht, iterate_afterExecute_acr, hm]
    simp

/-! ### The period of a continuous Timer 1 (R153, R155) -/

/-- Below the last step of a period, the quotient stands and the remainder goes on. -/
theorem succ_div_mod_of_lt {k n : Nat} (hk : k % (n + 1) < n) :
    (k + 1) / (n + 1) = k / (n + 1) ∧ (k + 1) % (n + 1) = k % (n + 1) + 1 := by
  have := Nat.div_add_mod k (n + 1)
  exact (Nat.div_mod_unique (by omega)).2 ⟨by omega, by omega⟩

/-- The last step of a period begins the next. -/
theorem succ_div_mod_of_eq {k n : Nat} (hk : k % (n + 1) = n) :
    (k + 1) / (n + 1) = k / (n + 1) + 1 ∧ (k + 1) % (n + 1) = 0 := by
  have := Nat.div_add_mod k (n + 1)
  exact (Nat.div_mod_unique (by omega)).2 ⟨by rw [Nat.mul_add]; omega, by omega⟩

/-- A level that is inverted in every odd period is inverted once more at the end of a period. -/
theorem squareWave_succ (p m : Byte) (q : Nat) :
    (if q % 2 = 1 then p ^^^ m else p) ^^^ m = if (q + 1) % 2 = 1 then p ^^^ m else p := by
  rcases Nat.mod_two_eq_zero_or_one q with hq | hq
  · simp [hq, Nat.add_mod]
  · simp [hq, Nat.add_mod]

/-- Settles O53, by induction on the EXECUTEs: within a period the counter falls, and the wrap at its end reloads the
counter, sets the flag and toggles `PB7`. -/
theorem continuousTimer1HasPeriodNPlusOne : Obligations.ContinuousTimer1HasPeriodNPlusOne := by
  intro s k h he hm hlatch
  refine ⟨_, execAll_pseudoX k s, ?_⟩
  generalize hn : s.dev.t1.counter.toNat = n
  induction k with
  | zero => simp [hn]
  | succ k ih =>
    obtain ⟨hcounter, hflag, hpb7⟩ := ih
    have hbits := iterate_afterExecute_defaultBits h k
    have hen := (iterate_afterExecute_t1_enabled k s).trans he
    have hacr := iterate_afterExecute_acr k s
    rw [Function.iterate_succ_apply']
    have hlast : k % (n + 1) < n + 1 := Nat.mod_lt k (Nat.succ_pos n)
    rcases Nat.lt_succ_iff_lt_or_eq.1 hlast with hlt | heq
    · have hpos : 1 ≤ (State.afterExecute^[k] s).dev.t1.counter.toNat := by omega
      have hne : (State.afterExecute^[k] s).dev.t1.counter ≠ 0#16 := fun hz => by simp [hz] at hpos
      have hflag' : decide (n < k + 1) = decide (n < k) := by
        have hkn : k ≠ n := fun e => hlt.ne (e ▸ Nat.mod_eq_of_lt (e ▸ Nat.lt_succ_self n))
        exact decide_eq_decide.2 (by omega)
      obtain ⟨hdiv, hmod⟩ := succ_div_mod_of_lt hlt
      obtain ⟨ht1, hp, hf⟩ := afterExecute_timer1_counts hbits hen hne
      rw [ht1, hp, hf, hpb7, hflag, hdiv, hmod, hflag']
      exact ⟨(toNat_sub_ofNat_of_le hpos).trans (by omega), rfl, rfl⟩
    · have hz : (State.afterExecute^[k] s).dev.t1.counter = 0#16 := BitVec.eq_of_toNat_eq (by simp [hcounter, heq])
      have hnk : n < k + 1 := Nat.lt_succ_of_le (heq ▸ Nat.mod_le k _)
      obtain ⟨hdiv, hmod⟩ := succ_div_mod_of_eq heq
      obtain ⟨ht1, hp, hf⟩ := afterExecute_timer1_reloads hbits hen hz (by rw [hacr, hm])
      rw [ht1, hp, hf, hpb7, hdiv, hmod, hacr]
      refine ⟨by simp [← hlatch, hn], by simp [hnk], ?_⟩
      cases s.dev.acr.getLsbD 7
      · simp
      · simpa using squareWave_succ s.dev.pb7 0x80 (k / (n + 1))

end Machine

end Sys2Proof
end

section
/-! Proofs for 43_shift_register.md: the shift register's part of EXECUTE on states, and runs of EXECUTEs under the
shift clock. -/

namespace Sys2Proof

/-! ### Shifting and rotating a byte (R178) -/

/-- Bit 7 shifted in again at bit 0 is a rotation. -/
theorem shiftLeftIn_bit7 : ∀ b : Byte, shiftLeftIn b (b.getLsbD 7) = b.rotateLeft 1 := by decide

/-- A level shifted in at bit 0. -/
theorem shiftLeftIn_eq_or : ∀ (b : Byte) (bit : Bool), shiftLeftIn b bit = (b <<< 1) ||| (if bit then 1 else 0) := by
  decide

theorem rotateLeft_zero (b : Byte) : b.rotateLeft 0 = b := by
  refine BitVec.eq_of_getMsbD_eq fun i hi => ?_
  simp [BitVec.getMsbD_rotateLeft, hi, Nat.mod_eq_of_lt hi]

theorem rotateLeft_rotateLeft_one (b : Byte) (k : Nat) : (b.rotateLeft k).rotateLeft 1 = b.rotateLeft (k + 1) := by
  refine BitVec.eq_of_getMsbD_eq fun i hi => ?_
  have hlt : (1 + i) % 8 < 8 := Nat.mod_lt _ (by decide)
  simp [BitVec.getMsbD_rotateLeft, hi, hlt, Nat.add_assoc]

/-- Rotating left brings the bits to bit 7 in order, most significant first. -/
theorem getLsbD_7_rotateLeft (b : Byte) {k : Nat} (hk : k < 8) : (b.rotateLeft k).getLsbD 7 = b.getLsbD (7 - k) := by
  have hmsb : (b.rotateLeft k).msb = b.getMsbD (k % 8) := BitVec.msb_rotateLeft
  rw [BitVec.msb_eq_getLsbD_last, Nat.mod_eq_of_lt hk] at hmsb
  simpa [-BitVec.getLsbD_eq_getElem, BitVec.getMsbD, hk] using hmsb

/-! ### The clock class of a shift code (R170) -/

/-- The classes of the modes but `outFree` are no parameter. -/
theorem classOf_eq_default {c : Config} {m : SrMode} (h : m = .outFree → c.srMode4Class = .t2) :
    c.classOf m = Config.default.classOf m := by
  cases m
  case outFree => exact h rfl
  all_goals rfl

/-- Only code 0b100 names the mode whose class is the parameter `SR_MODE4_CLASS`. -/
theorem srModeOfCode_eq_outFree : ∀ f : BitVec 3, srModeOfCode f = .outFree → f = 4 := by decide

/-- The codes of the two internally clocked classes. -/
theorem srClassOfCode_clocked (f : BitVec 3) :
    (srClassOfCode f = .phi2 ↔ f ∈ [(2 : BitVec 3), 6]) ∧ (srClassOfCode f = .t2 ↔ f ∈ [(1 : BitVec 3), 4, 5]) := by
  revert f
  decide

namespace Machine

/-- The shift clock's condition by the two classes that it names (R174). -/
theorem srClockTicks_eq_decide (c : Config) (v : Device) :
    srClockTicks c v = decide (c.srClass v.acr = .phi2 ∨ (c.srClass v.acr = .t2 ∧ v.shift.counter = 0x00)) := by
  unfold srClockTicks
  cases c.srClass v.acr <;> simp

/-- `SR` with one bit moved, in the direction of `ACR[4]` (R178). -/
def Device.srMoved (v : Device) : Byte :=
  if v.acr.getLsbD 4 then v.sr.rotateLeft 1 else (v.sr <<< 1) ||| (if v.cb2State then 1 else 0)

/-- `cb2_state_sr` with one bit moved (R178). -/
def Device.cb2SrMoved (v : Device) : Bool := if v.acr.getLsbD 4 then v.sr.getLsbD 7 else v.cb2StateSr

/-- One bit shifted, at the default ACR layout. -/
theorem srShiftOneBit_default {c : Config} (h : c.acrLayout = AcrLayout.default) (v : Device) :
    srShiftOneBit c v = { v with sr := v.srMoved, cb2StateSr := v.cb2SrMoved } := by
  rw [srShiftOneBit, shiftsOut_default _ h, shiftLeftIn_bit7, shiftLeftIn_eq_or, Device.srMoved, Device.cb2SrMoved]
  cases v.acr.getLsbD 4 <;> rfl

/-- An update as one equation (R177, R178, R179). -/
theorem srUpdate_default {c : Config} (h : c.acrLayout = AcrLayout.default) (l : Bool) (v : Device) :
    srUpdate c l v = if v.shift.enabled && c.shiftsOn l then { v with
        sr := v.srMoved, cb2StateSr := v.cb2SrMoved
        shift := { v.shift with shifted := v.shift.shifted + 1, enabled := decide (v.shift.shifted ≠ 7) }
        ifr := if v.shift.shifted = 7 then v.ifr ||| low7 c.srInt else v.ifr }
      else v := by
  have hcases := srUpdate_cases c l v
  rw [srShiftOneBit_default h] at hcases
  rcases hcases with ⟨hen | hon, e⟩ | ⟨hen, hon, h7, e⟩ | ⟨hen, hon, h7, e⟩ <;> rw [e]
  · simp [hen]
  · simp [hon]
  · simp [hen, hon, h7]
  · simp [hen, hon, h7]

/-! ### The shift register after an EXECUTE -/

/-- The test of `SR_SHIFT_ON` in `shiftMoves` is that of the model, at the level after the toggle (R177). -/
theorem shiftMoves_eq (s : State) :
    s.shiftMoves = (s.shiftTick && s.dev.shift.enabled && s.cfg.shiftsOn (!s.dev.cb1StateSr)) := by
  rw [State.shiftMoves, Config.shiftsOn]
  cases s.cfg.srShiftOn <;> simp

section
variable {s : State} (h : s.DefaultBits) (h4 : s.srCode = 4 → s.DefaultMode4)
include h h4

/-- The class by the code; `SR_MODE4_CLASS` matters for code 0b100 alone. -/
theorem srClass_default : s.cfg.srClass s.dev.acr = srClassOfCode s.srCode := by
  obtain ⟨-, hacr, -⟩ := h
  rw [Config.srClass, srMode_default _ hacr, default_srModes]
  change s.cfg.classOf (srModeOfCode s.srCode) = _
  rw [classOf_eq_default fun hm => h4 (srModeOfCode_eq_outFree _ hm), default_srClasses]

/-- The model's tick is the statements' (R174). -/
theorem srClockTicks_eq_shiftTick : srClockTicks s.cfg s.dev = s.shiftTick := by
  obtain ⟨hphi2, ht2⟩ := srClassOfCode_clocked s.srCode
  simp only [srClockTicks_eq_decide, srClass_default h h4, hphi2, ht2, State.shiftTick]

/-- Without a bit moved the shift clock toggles the CB1 value or does nothing. -/
theorem srClock_of_not_moves (hm : s.shiftMoves = false) :
    srClock s.cfg s.dev =
      { s.dev with cb1StateSr := if s.shiftTick then !s.dev.cb1StateSr else s.dev.cb1StateSr } := by
  have ⟨_, hacr, _⟩ := h
  rw [shiftMoves_eq] at hm
  rw [srClock, srClockTicks_eq_shiftTick h h4]
  cases ht : s.shiftTick
  · simp
  · rw [ht, Bool.true_and] at hm
    simp [srUpdate_default hacr, hm]

/-- With a bit moved it toggles the CB1 value and makes the update's changes. -/
theorem srClock_of_moves (hm : s.shiftMoves = true) :
    srClock s.cfg s.dev = { s.dev with
      sr := s.dev.srMoved, cb1StateSr := !s.dev.cb1StateSr, cb2StateSr := s.dev.cb2SrMoved
      shift := { s.dev.shift with
        shifted := s.dev.shift.shifted + 1, enabled := decide (s.dev.shift.shifted ≠ 7) }
      ifr := if s.dev.shift.shifted = 7 then s.dev.ifr ||| low7 s.cfg.srInt else s.dev.ifr } := by
  have ⟨_, hacr, _⟩ := h
  simp only [shiftMoves_eq, Bool.and_eq_true] at hm
  obtain ⟨⟨ht, hen⟩, hon⟩ := hm
  rw [srClock, srClockTicks_eq_shiftTick h h4]
  simp [ht, srUpdate_default hacr, hen, hon, Device.srMoved, Device.cb2SrMoved]

end

/-- The state between the timers' steps and the shift clock of an EXECUTE (42_execute_timers.md R150). -/
def State.afterTimers (s : State) : State := { s with dev := t2Step s.cfg (t1Step s.cfg s.dev) }

/-- The timers do not change what the shift clock goes by. -/
theorem afterTimers_frame (s : State) :
    s.afterTimers.srCode = s.srCode ∧ s.afterTimers.shiftTick = s.shiftTick ∧
      s.afterTimers.shiftMoves = s.shiftMoves := by
  simp [shiftMoves_eq, State.shiftTick, State.srCode, State.afterTimers]

/-- The sub-counter after an EXECUTE (R181). -/
theorem afterExecute_shift_counter (s : State) :
    s.afterExecute.dev.shift.counter =
      if s.dev.shift.counter = 0x00 then s.dev.t2cl else s.dev.shift.counter - 1 :=
  executeDevice_shift_counter s.cfg s.dev

/-- The shift register's flag, set under a condition, is bit 2 (60_exceptions.md R236). -/
theorem getLsbD_ite_or_srInt {c : Config} (h : c.ifrBits = FlagBits.default) (p : Prop) [Decidable p] (f : FlagSet) :
    (if p then f ||| low7 c.srInt else f).getLsbD 2 = (f.getLsbD 2 || decide p) := by
  have hbit : (low7 c.srInt).getLsbD 2 = true := by rw [srInt_default _ h]; rfl
  by_cases hp : p
  · simp [-BitVec.getLsbD_eq_getElem, hp, hbit]
  · simp [hp]

/-- The timers leave the shift register's flag. -/
theorem afterTimers_ifr_sr {s : State} (h : s.DefaultBits) :
    s.afterTimers.dev.ifr.getLsbD 2 = s.dev.ifr.getLsbD 2 := by
  have h2 := t2Step_ifr (s := { s with dev := t1Step s.cfg s.dev }) h
  rw [State.afterTimers, h2, Config.t2Int, getLsbD_ite_or_flagMask, t1Step_ifr h, Config.t1Int,
    getLsbD_ite_or_flagMask, h.1]
  simp [-BitVec.getLsbD_eq_getElem, FlagBits.default]

section
variable {s : State} (h : s.DefaultBits) (h4 : s.srCode = 4 → s.DefaultMode4)
include h h4

/-- The shift clock's CB1 value toggles on a tick, whether or not the unit is enabled (R174). -/
theorem afterExecute_cb1StateSr :
    s.afterExecute.dev.cb1StateSr = if s.shiftTick then !s.dev.cb1StateSr else s.dev.cb1StateSr := by
  obtain ⟨hcode, htick, -⟩ := afterTimers_frame s
  have hticks : srClockTicks s.cfg (t2Step s.cfg (t1Step s.cfg s.dev)) = _ :=
    srClockTicks_eq_shiftTick (s := s.afterTimers) h (hcode ▸ h4)
  rw [afterExecute_dev, executeDevice_cb1StateSr, srClock_cb1StateSr, hticks, htick]
  simp

/-- An EXECUTE that moves no bit leaves the shift register (R177). -/
theorem afterExecute_of_not_moves (hm : s.shiftMoves = false) :
    s.afterExecute.dev.sr = s.dev.sr ∧ s.afterExecute.dev.cb2StateSr = s.dev.cb2StateSr ∧
      s.afterExecute.dev.shift.enabled = s.dev.shift.enabled ∧
      s.afterExecute.dev.shift.shifted = s.dev.shift.shifted ∧
      s.afterExecute.dev.ifr.getLsbD 2 = s.dev.ifr.getLsbD 2 := by
  obtain ⟨hcode, -, hmoves⟩ := afterTimers_frame s
  have hclock : srClock s.cfg (t2Step s.cfg (t1Step s.cfg s.dev)) = _ :=
    srClock_of_not_moves (s := s.afterTimers) h (hcode ▸ h4) (hmoves.trans hm)
  rw [afterExecute_dev, executeDevice_sr, executeDevice_cb2StateSr, executeDevice_shift_enabled,
    executeDevice_shift_shifted, executeDevice_ifr, hclock]
  refine ⟨?_, ?_, ?_, ?_, afterTimers_ifr_sr h⟩ <;> simp [State.afterTimers]

/-- An EXECUTE that moves a bit moves and counts it; the eighth sets the flag and stops the unit (R178, R179). -/
theorem afterExecute_of_moves (hm : s.shiftMoves = true) :
    s.afterExecute.dev.sr = s.dev.srMoved ∧ s.afterExecute.dev.cb2StateSr = s.dev.cb2SrMoved ∧
      s.afterExecute.dev.shift.shifted = s.dev.shift.shifted + 1 ∧
      s.afterExecute.dev.shift.enabled = decide (s.dev.shift.shifted ≠ 7) ∧
      s.afterExecute.dev.ifr.getLsbD 2 = (s.dev.ifr.getLsbD 2 || decide (s.dev.shift.shifted = 7)) := by
  obtain ⟨hcode, -, hmoves⟩ := afterTimers_frame s
  have hclock : srClock s.cfg (t2Step s.cfg (t1Step s.cfg s.dev)) = _ :=
    srClock_of_moves (s := s.afterTimers) h (hcode ▸ h4) (hmoves.trans hm)
  rw [afterExecute_dev, executeDevice_sr, executeDevice_cb2StateSr, executeDevice_shift_enabled,
    executeDevice_shift_shifted, executeDevice_ifr, hclock, ← afterTimers_ifr_sr h]
  refine ⟨?_, ?_, ?_, ?_, (getLsbD_ite_or_srInt h.1 _ _).trans ?_⟩ <;>
    simp [State.afterTimers, Device.srMoved, Device.cb2SrMoved]

end

/-- Settles O23: EXECUTE's step of the sub-counter, RESET's device, and updates that do not name the sub-counter. -/
theorem subCounterFreeRunsFromT2cl : Obligations.SubCounterFreeRunsFromT2cl := by
  intro i s t hexec
  obtain ⟨e, r, rfl⟩ := exec_next hexec
  cases i
  case execute => exact executeDevice_shift_counter s.cfg s.dev
  all_goals rfl

/-- Settles O24: the level that the shift clock leaves. -/
theorem shiftClockTogglesCb1 : Obligations.ShiftClockTogglesCb1 := fun s h h4 =>
  ⟨_, exec_execute s, afterExecute_cb1StateSr h fun _ => h4⟩

/-- Settles O25: the two clauses are the EXECUTE that moves no bit and the one that moves a bit. -/
theorem shiftUpdateMovesAndCountsOneBit : Obligations.ShiftUpdateMovesAndCountsOneBit := fun s h h4 =>
  ⟨_, exec_execute s, afterExecute_of_not_moves h fun _ => h4, afterExecute_of_moves h fun _ => h4⟩

/-! ### A byte sent under the phase-2 clock (R178, R179, R182) -/

/-- In mode 0b110 with every tick shifting, `k` bits of `d` have left `SR`, and the unit runs until the eighth has. -/
structure State.SentBits (s : State) (d : Byte) (k : Nat) : Prop where
  bits    : s.DefaultBits
  everyOn : s.cfg.srShiftOn = .every
  code    : s.srCode = 0b110
  rotated : s.dev.sr = d.rotateLeft k
  counted : s.dev.shift.shifted = k
  enabled : s.dev.shift.enabled = decide (k < 8)
  flag    : s.dev.ifr.getLsbD 2 = decide (k = 8)

/-- A WRITE of SR starts the sending. -/
theorem sentBits_wSr (d : Byte) {s : State} (h : s.DefaultBits) (hon : s.cfg.srShiftOn = .every)
    (hcode : s.srCode = 0b110) :
    State.SentBits { s with dev := deviceAfter s.cfg s.dev (.wSr d), result := .nothing } d 0 where
  bits := h
  everyOn := hon
  code := hcode
  rotated := (rotateLeft_zero d).symm
  counted := rfl
  enabled := rfl
  flag := by simp [deviceAfter, setIfr_srInt_false h.1]

/-- The shift-out modes are those whose code has bit 2 (30_encoding.md R90). -/
theorem acr_bit4_eq_srCode_bit2 (s : State) : s.dev.acr.getLsbD 4 = s.srCode.getLsbD 2 := by
  simp [State.srCode]

theorem afterExecute_srCode (s : State) : s.afterExecute.srCode = s.srCode := by
  simp [State.srCode, afterExecute_dev]

/-- One more EXECUTE sends the next bit, most significant first. -/
theorem sentBits_afterExecute {s : State} {d : Byte} {k : Nat} (hs : s.SentBits d k) (hk : k < 8) :
    s.afterExecute.SentBits d (k + 1) ∧ s.afterExecute.dev.cb2StateSr = d.getLsbD (7 - k) := by
  obtain ⟨hbits, hon, hcode, hsr, hcount, hen, hflag⟩ := hs
  have hmoves : s.shiftMoves = true := by simp [State.shiftMoves, State.shiftTick, hon, hcode, hen, hk]
  have hout : s.dev.acr.getLsbD 4 = true := by rw [acr_bit4_eq_srCode_bit2, hcode]; rfl
  obtain ⟨hsr', hcb2', hcount', hen', hflag'⟩ :=
    afterExecute_of_moves hbits (fun h4 => absurd (hcode.symm.trans h4) (by decide)) hmoves
  rw [Device.srMoved, if_pos hout, hsr] at hsr'
  rw [Device.cb2SrMoved, if_pos hout, hsr] at hcb2'
  rw [hcount] at hcount' hen' hflag'
  refine ⟨⟨hbits, hon, (afterExecute_srCode s).trans hcode, hsr'.trans (rotateLeft_rotateLeft_one d k), hcount',
    hen'.trans (decide_eq_decide.2 (by omega)), ?_⟩, hcb2'.trans (getLsbD_7_rotateLeft d hk)⟩
  rw [hflag', hflag]
  simp [hk.ne]

theorem sentBits_iterate_afterExecute {s : State} {d : Byte} (hs : s.SentBits d 0) {k : Nat} (hk : k ≤ 8) :
    (State.afterExecute^[k] s).SentBits d k := by
  induction k with
  | zero => exact hs
  | succ k ih =>
    rw [Function.iterate_succ_apply']
    exact (sentBits_afterExecute (ih (by omega)) hk).1

/-- Settles O56: `k` bits have left after `k` EXECUTEs, and eight rotations give the byte back. -/
theorem phaseTwoShiftOutSendsTheByte : Obligations.PhaseTwoShiftOutSendsTheByte := by
  intro d s h hon hcode
  have hrun (k : Nat) := execAll_writeInstr_pseudoX d .sr k s
  have hstart := sentBits_wSr d h hon hcode
  have hsent {k : Nat} (hk : k ≤ 8) := sentBits_iterate_afterExecute hstart hk
  refine ⟨fun k hk => ⟨_, hrun (k + 1), ?_, ?_⟩, _, hrun 8, ?_, ?_, ?_⟩
  · rw [writeInstr, Function.iterate_succ_apply']
    exact (sentBits_afterExecute (hsent hk.le) hk).2
  · exact (hsent hk).flag.trans (by simp)
  · exact (hsent le_rfl).rotated.trans (BitVec.rotateLeft_mod_eq_rotateLeft.symm.trans (rotateLeft_zero d))
  · exact (hsent le_rfl).enabled
  · exact (hsent le_rfl).counted

/-! ### The shift clock from Timer 2's byte (R174, R181, R182) -/

@[simp] theorem iterate_afterExecute_t2cl (k : Nat) (s : State) :
    (State.afterExecute^[k] s).dev.t2cl = s.dev.t2cl :=
  iterate_afterExecute_keeps (g := (·.dev.t2cl)) (fun t => executeDevice_t2cl t.cfg t.dev) k s

theorem iterate_afterExecute_srCode (k : Nat) (s : State) : (State.afterExecute^[k] s).srCode = s.srCode :=
  iterate_afterExecute_keeps afterExecute_srCode k s

/-- In class T2 the clock ticks when the sub-counter is at 0. -/
theorem shiftTick_of_class_t2 {s : State} (hcode : s.srCode ∈ [(1 : BitVec 3), 4, 5]) :
    s.shiftTick = decide (s.dev.shift.counter = 0x00) := by
  have hphi2 : s.srCode ∉ [(2 : BitVec 3), 6] := by
    generalize s.srCode = f at hcode
    revert f
    decide
  simp only [State.shiftTick, hphi2, hcode, false_or, true_and]

/-- A level that is inverted in every odd period is inverted once more when a period begins. -/
theorem not_xor_odd (b : Bool) (q : Nat) : (!(b ^^ decide (q % 2 = 1))) = (b ^^ decide ((q + 1) % 2 = 1)) := by
  rcases Nat.mod_two_eq_zero_or_one q with hq | hq <;> simp [hq, Nat.add_mod]

/-- The sub-counter and the shift clock's level by the remainder and the quotient of `j + N`: at the remainder `N` the
sub-counter is at 0, and the next EXECUTE ticks and begins a period. -/
theorem iterate_afterExecute_shiftClock {s : State} (h : s.DefaultBits) (h4 : s.DefaultMode4)
    (hcode : s.srCode ∈ [(1 : BitVec 3), 4, 5]) (hzero : s.dev.shift.counter = 0x00) {n : Nat}
    (hn : s.dev.t2cl.toNat = n) (j : Nat) :
    (State.afterExecute^[j] s).dev.shift.counter.toNat = n - (j + n) % (n + 1) ∧
      (State.afterExecute^[j] s).dev.cb1StateSr = (s.dev.cb1StateSr ^^ decide ((j + n) / (n + 1) % 2 = 1)) := by
  induction j with
  | zero => simp [hzero, Nat.div_eq_of_lt]
  | succ j ih =>
    obtain ⟨hcounter, hlevel⟩ := ih
    have hmode4 : (State.afterExecute^[j] s).DefaultMode4 := by simpa [State.DefaultMode4] using h4
    have htick := shiftTick_of_class_t2 ((iterate_afterExecute_srCode j s).symm ▸ hcode)
    rw [Function.iterate_succ_apply', afterExecute_shift_counter,
      afterExecute_cb1StateSr (iterate_afterExecute_defaultBits h j) fun _ => hmode4, htick, hlevel,
      iterate_afterExecute_t2cl, Nat.add_right_comm]
    have hlast : (j + n) % (n + 1) < n + 1 := Nat.mod_lt _ (Nat.succ_pos n)
    rcases Nat.lt_succ_iff_lt_or_eq.1 hlast with hlt | heq
    · obtain ⟨hdiv, hmod⟩ := succ_div_mod_of_lt hlt
      have hne : (State.afterExecute^[j] s).dev.shift.counter ≠ 0x00 := by bv_omega
      rw [hdiv, hmod, if_neg hne, decide_eq_false hne]
      exact ⟨by bv_omega, rfl⟩
    · obtain ⟨hdiv, hmod⟩ := succ_div_mod_of_eq heq
      have hz : (State.afterExecute^[j] s).dev.shift.counter = 0x00 := by bv_omega
      rw [hdiv, hmod, if_pos hz, decide_eq_true hz]
      exact ⟨hn, not_xor_odd _ _⟩

/-- The countdown as the statement writes it: `j` and `j + N + 1` EXECUTEs leave the same remainder. -/
theorem countdown_eq (j n : Nat) : (n + 1 - j % (n + 1)) % (n + 1) = n - (j + n) % (n + 1) := by
  have hlast : (j + n) % (n + 1) < n + 1 := Nat.mod_lt _ (Nat.succ_pos n)
  have hperiod : (j + n + 1) % (n + 1) = j % (n + 1) := Nat.add_mod_right j (n + 1)
  rcases Nat.lt_succ_iff_lt_or_eq.1 hlast with hlt | heq
  · rw [← hperiod, (succ_div_mod_of_lt hlt).2, Nat.add_sub_add_right, Nat.mod_eq_of_lt (by omega)]
  · rw [← hperiod, (succ_div_mod_of_eq heq).2, heq]
    simp

/-- Settles O57: the sub-counter and the level after `j` EXECUTEs, the former in the statement's form. -/
theorem timerTwoShiftClockHasPeriodNPlusOne : Obligations.TimerTwoShiftClockHasPeriodNPlusOne := by
  intro s j h h4 hcode hzero
  obtain ⟨hcounter, hlevel⟩ := iterate_afterExecute_shiftClock h h4 hcode hzero rfl j
  exact ⟨_, execAll_pseudoX j s, hcounter.trans (countdown_eq _ _).symm, hlevel⟩

end Machine

end Sys2Proof
end

section
/-! Proofs for 44_port_io_handshake.md: which events write CA2 and CB2, the level that a mode fixes, and what the
observer is given. -/

namespace Sys2Proof

/-! ### The line modes at the default PCR layout (30_encoding.md R87) -/

section
variable {c : Config} (h : c.pcrLayout = PcrLayout.default) (pcr : Byte)
include h

theorem ca2Mode_eq_pulseOutput : c.ca2Mode pcr = .pulseOutput ↔ pcr.extractLsb' 1 3 = 0b101 := by
  obtain ⟨-, hpulse, -⟩ := lineMode_codes (pcr.extractLsb' 1 3)
  rw [ca2Mode_default c h, hpulse]

theorem cb2Mode_eq_pulseOutput : c.cb2Mode pcr = .pulseOutput ↔ pcr.extractLsb' 5 3 = 0b101 := by
  obtain ⟨-, hpulse, -⟩ := lineMode_codes (pcr.extractLsb' 5 3)
  rw [cb2Mode_default c h, hpulse]

end

/-- `HS_ACCESS_MODES` as a set (44_port_io_handshake.md R196). -/
theorem movesOnAccess_iff_mem (c : Config) (m : LineMode) : c.movesOnAccess m = true ↔ m ∈ c.hsAccessModes :=
  List.contains_iff_mem

namespace Machine

/-! ### The restore at the end of EXECUTE (R200) -/

section
variable {s : State} (h : s.DefaultBits)
include h

theorem afterExecute_ca2State :
    s.afterExecute.dev.ca2State = if s.ca2Code = 0b101 then true else s.dev.ca2State := by
  obtain ⟨-, -, hpcr⟩ := h
  exact (executeDevice_ca2State s.cfg s.dev).trans (if_congr (ca2Mode_eq_pulseOutput hpcr s.dev.pcr) rfl rfl)

theorem afterExecute_cb2State :
    s.afterExecute.dev.cb2State = if s.cb2Code = 0b101 then true else s.dev.cb2State := by
  obtain ⟨-, -, hpcr⟩ := h
  exact (executeDevice_cb2State s.cfg s.dev).trans (if_congr (cb2Mode_eq_pulseOutput hpcr s.dev.pcr) rfl rfl)

end

/-- Settles O26: the two lines after an EXECUTE. -/
theorem executeRestoresPulseLines : Obligations.ExecuteRestoresPulseLines := fun s h =>
  ⟨_, exec_execute s, afterExecute_ca2State h, afterExecute_cb2State h⟩

/-! ### The events that write a line (R197, R198)

Each is an operation whose update names the line; `deviceAfter` of every other operation does not. -/

/-- Settles O34: the two accesses of port A by R196, the write of PCR by R142, EXECUTE by its restore. -/
theorem ca2IsWrittenByTheListedEventsOnly : Obligations.Ca2IsWrittenByTheListedEventsOnly := by
  intro i s t h ht
  obtain ⟨e, r, rfl⟩ := exec_next ht
  have ⟨_, _, hpcr⟩ := h
  cases i
  case rOra | wOra => simp only [deviceAfter, accessCa2_ca2State, movesOnAccess_iff_mem]
  case wPcr d => simp only [deviceAfter, ca2Mode_default _ hpcr, pcrWriteLevel_default]
  case execute => exact afterExecute_ca2State h
  all_goals rfl

/-- Settles O35: the write of ORB by R196, the write of PCR by R142, EXECUTE by its restore. The shift register writes
`cb2_state_sr`. -/
theorem cb2IsWrittenByTheListedEventsOnly : Obligations.Cb2IsWrittenByTheListedEventsOnly := by
  intro i s t h ht
  obtain ⟨e, r, rfl⟩ := exec_next ht
  have ⟨_, _, hpcr⟩ := h
  cases i
  case wOrb => simp only [deviceAfter, accessCb2_cb2State, movesOnAccess_iff_mem]
  case wPcr d => simp only [deviceAfter, cb2Mode_default _ hpcr, pcrWriteLevel_default]
  case execute => exact afterExecute_cb2State h
  all_goals rfl

/-! ### The level that a mode fixes (R201) -/

/-- The level that a PCR write gives a line is the one that the new mode fixes. -/
theorem levelFits_pcrWriteLevel (m : LineMode) : levelFits m (pcrWriteLevel m) := by
  cases m <;> trivial

section
variable {m : LineMode} {level : Bool} (hfit : levelFits m level)
include hfit

/-- The pulse restore moves a line only in a mode that fixes no level. -/
theorem levelFits_pulseRestore : levelFits m (if m = .pulseOutput then true else level) := by
  by_cases hm : m = .pulseOutput
  · subst hm
    trivial
  · rwa [if_neg hm]

/-- So does a data-register access, when no other mode is in `HS_ACCESS_MODES`. -/
theorem levelFits_access {c : Config} (hspare : ∀ m ∈ c.hsAccessModes, m = .handshakeOutput ∨ m = .pulseOutput)
    (driven : Bool) : levelFits m (if c.movesOnAccess m then driven else level) := by
  by_cases hm : c.movesOnAccess m = true
  · rcases hspare m ((movesOnAccess_iff_mem c m).1 hm) with rfl | rfl <;> trivial
  · rwa [if_neg hm]

end

/-- RESET leaves both lines high and both modes at code 0b000, an input mode. -/
theorem linesFit_of_dev_reset {s : State} (h : s.DefaultBits) (hdev : s.dev = Device.reset) : s.LinesFit := by
  obtain ⟨-, -, hpcr⟩ := h
  rw [State.LinesFit, ca2Mode_default _ hpcr, cb2Mode_default _ hpcr, hdev]
  exact ⟨rfl, rfl⟩

/-- Every operation keeps the lines at the levels of their modes. -/
theorem exec_keeps_linesFit {i : Instr} {s t : State} (h : s.DefaultBits) (hspare : s.AccessSparesFixed)
    (hfit : s.LinesFit) (ht : exec i s = .next t) : t.LinesFit := by
  obtain ⟨e, r, rfl⟩ := exec_next ht
  have ⟨hca2, hcb2⟩ := hfit
  cases i
  case rOra | wOra => exact ⟨levelFits_access hca2 hspare _, hcb2⟩
  case wOrb => exact ⟨hca2, levelFits_access hcb2 hspare _⟩
  case wPcr => exact ⟨levelFits_pcrWriteLevel _, levelFits_pcrWriteLevel _⟩
  case execute =>
    simp only [State.LinesFit, deviceAfter, executeDevice_pcr, executeDevice_ca2State, executeDevice_cb2State]
    exact ⟨levelFits_pulseRestore hca2, levelFits_pulseRestore hcb2⟩
  case reset => exact linesFit_of_dev_reset h rfl
  all_goals exact hfit

/-- Settles O44: an idle step changes nothing, and an operation runs with the parameters and the device of `s`. -/
theorem linesKeepTheLevelOfTheirMode : Obligations.LinesKeepTheLevelOfTheirMode := by
  intro s t h hspare hfit hstep
  rcases step_cases s t hstep with ⟨_, rfl⟩ | ⟨o, rest, i, _, _, hexec⟩
  · exact ⟨h, hspare, hfit⟩
  · have hfit' : t.LinesFit := exec_keeps_linesFit (s := { s with pending := rest }) h hspare hfit hexec
    obtain ⟨e, r, rfl⟩ := exec_next hexec
    exact ⟨h, hspare, hfit'⟩

/-! ### The observer call (R204) -/

/-- A registered observer is called once, after one evaluation of port B. -/
theorem observe_registered (c : Config) (v : Device) {e : Env} {r : SinkRef} (h : e.updateCb = some r) :
    observe c v e = { (effB c v e).2 with
      calls := .observed r (observation c v (effB c v e).1) :: (effB c v e).2.calls } := by
  simp only [observe, h]

/-- The state of an EXECUTE at its observer call: after the timers and the shift register, before the pulse restore
(42_execute_timers.md R150). -/
def State.atObserve (s : State) : State := { s with dev := deviceAtObserve s.cfg s.dev }

theorem afterExecute_env (s : State) : s.afterExecute.env = observe s.cfg s.atObserve.dev s.env := rfl

/-- The elements that an EXECUTE may write before the call; every other element is as at its start. -/
theorem atObserve_dev_frame (s : State) :
    s.atObserve.dev = { s.dev with
      t1 := s.atObserve.dev.t1, t2 := s.atObserve.dev.t2, pb7 := s.atObserve.dev.pb7, ifr := s.atObserve.dev.ifr
      sr := s.atObserve.dev.sr, shift := s.atObserve.dev.shift
      cb1StateSr := s.atObserve.dev.cb1StateSr, cb2StateSr := s.atObserve.dev.cb2StateSr } := by
  rw [State.atObserve, deviceAtObserve, srClock_frame, t2Step_frame, t1Step_frame]
  rfl

/-- Port B is evaluated from `DDRB` and `ORB`, which EXECUTE does not write (R193). -/
theorem portBIn_atObserve (s : State) : portBIn s.atObserve.dev s.env = portBIn s.dev s.env := by
  rw [atObserve_dev_frame]
  rfl

/-- The effective port-B value at the call is the one under this cycle's PB7 (R194), which nothing after the call
writes. -/
theorem effB_atObserve {s : State} (h : s.DefaultBits) :
    effB s.cfg s.atObserve.dev s.env =
      (s.portBView (portBIn s.dev s.env).1 s.afterExecute.dev.pb7, (portBIn s.dev s.env).2) := by
  obtain ⟨-, hacr, -⟩ := h
  rw [← portBIn_atObserve]
  refine Prod.ext ((effB_fst_eq_portBView (s := s.atObserve) hacr).trans ?_) rfl
  rw [State.portBView, atObserve_dev_frame]
  rfl

/-- The effective CB1 line by the two classes that name the shift clock (R202). -/
theorem effCb1_eq_ite (c : Config) (v : Device) :
    effCb1 c v = if c.srClass v.acr = .t2 ∨ c.srClass v.acr = .phi2 then v.cb1StateSr else v.cb1State := by
  unfold effCb1
  cases c.srClass v.acr <;> rfl

/-- The codes of the two internally clocked classes, as the statements list them. -/
theorem internalClock_iff (s : State) :
    s.internalClock = true ↔ srClassOfCode s.srCode = .t2 ∨ srClassOfCode s.srCode = .phi2 := by
  obtain ⟨hphi2, ht2⟩ := srClassOfCode_clocked s.srCode
  rw [hphi2, ht2, State.internalClock, decide_eq_true_iff, ← List.mem_append]
  rfl

/-- The effective CB1 line by the shift code. -/
theorem effCb1_default {s : State} (h : s.DefaultBits) (h4 : s.srCode = 4 → s.DefaultMode4) :
    effCb1 s.cfg s.dev = if s.internalClock then s.dev.cb1StateSr else s.dev.cb1State := by
  simp only [effCb1_eq_ite, srClass_default h h4, internalClock_iff]

/-- The effective CB2 line by the shift direction (R203). -/
theorem effCb2_default {c : Config} (h : c.acrLayout = AcrLayout.default) (v : Device) :
    effCb2 c v = if v.acr.getLsbD 4 then v.cb2StateSr else v.cb2State := by
  rw [effCb2, shiftsOut_default c h]

/-- The tuple of the call (R204): this cycle's shift clock and shifted bit, which nothing after the call writes, and the
other elements as at the start. -/
theorem observation_atObserve {s : State} (h : s.DefaultBits) (h4 : s.DefaultMode4) (portB : Byte) :
    observation s.cfg s.atObserve.dev portB =
      { ora := s.dev.ora
        portB := portB
        ca1 := s.dev.ca1State
        ca2 := s.dev.ca2State
        cb1 := if s.internalClock then s.afterExecute.dev.cb1StateSr else s.dev.cb1State
        cb2 := if s.dev.acr.getLsbD 4 then s.afterExecute.dev.cb2StateSr else s.dev.cb2State } := by
  have ⟨_, hacr, _⟩ := h
  have hcb1 : effCb1 s.cfg s.atObserve.dev = _ := effCb1_default (s := s.atObserve) h fun _ => h4
  rw [observation, hcb1, effCb2_default hacr, State.internalClock, State.srCode, atObserve_dev_frame]
  rfl

/-- Settles O27: without an observer nothing is called; a registered one gets the tuple of `observation_atObserve` after
the evaluation of port B. -/
theorem observerGetsTheTupleOfThisCycle : Obligations.ObserverGetsTheTupleOfThisCycle := by
  intro s h h4
  refine ⟨_, exec_execute s, observe_absent _ _ _, fun r hr => ⟨_, _, portBEvaluates_portBIn s, ?_⟩⟩
  rw [afterExecute_env, observe_registered _ _ hr, effB_atObserve h, observation_atObserve h h4]

/-! ### The width of a pulse (R206) -/

/-- The observer is shown CA2 as it was at the start of the EXECUTE, before the restore. -/
theorem afterExecute_shows_ca2 {s : State} {r : SinkRef} (h : s.env.updateCb = some r) :
    ∃ o c, s.afterExecute.env.calls = .observed r o :: c ∧ o.ca2 = s.dev.ca2State := by
  rw [afterExecute_env, observe_registered _ _ h]
  refine ⟨_, _, rfl, ?_⟩
  rw [observation, atObserve_dev_frame]

theorem afterExecute_updateCb (s : State) : s.afterExecute.env.updateCb = s.env.updateCb := by
  rw [afterExecute_env, observe_frame]

/-- The state that a READ ORA answers. -/
def State.afterReadOra (s : State) : State :=
  { s with
    dev := accessCa2 s.cfg false s.dev
    env := (effA s.dev s.env).2
    result := .byte (effA s.dev s.env).1 }

theorem exec_rOra (s : State) : exec .rOra s = .next s.afterReadOra := rfl

theorem afterReadOra_updateCb (s : State) : s.afterReadOra.env.updateCb = s.env.updateCb := by
  rw [State.afterReadOra, effA, portAIn_frame]

/-- READ ORA lowers CA2 in the access modes (R197). -/
theorem afterReadOra_ca2State {s : State} (h : s.DefaultBits) (hacc : s.DefaultAccess) :
    s.afterReadOra.dev.ca2State = if movesCode s.ca2Code then false else s.dev.ca2State := by
  obtain ⟨-, -, hpcr⟩ := h
  rw [State.afterReadOra, accessCa2_default hpcr hacc]
  rfl

/-- Settles O58: READ ORA lowers the line, the first EXECUTE shows it low and restores it, the second shows it high. -/
theorem handshakePulseIsOneSampleWide : Obligations.HandshakePulseIsOneSampleWide := by
  intro s r h hacc hcode hr
  have hr1 : s.afterReadOra.env.updateCb = some r := (afterReadOra_updateCb s).trans hr
  have hr2 : s.afterReadOra.afterExecute.env.updateCb = some r := (afterExecute_updateCb _).trans hr1
  have hlow : s.afterReadOra.dev.ca2State = false := by
    rw [afterReadOra_ca2State h hacc, hcode]
    rfl
  have hhigh : s.afterReadOra.afterExecute.dev.ca2State = true :=
    (afterExecute_ca2State (s := s.afterReadOra) h).trans (if_pos hcode)
  have hrun : execAll [.rOra, .execute] s = .next s.afterReadOra.afterExecute := by
    simp only [execAll, exec_rOra, exec_execute]
  obtain ⟨o, c, hcalls, ho⟩ := afterExecute_shows_ca2 hr1
  obtain ⟨o', c', hcalls', ho'⟩ := afterExecute_shows_ca2 hr2
  exact ⟨_, _, o, o', c, c', hrun, exec_execute _, hcalls, ho.trans hlow, hcalls', ho'.trans hhigh⟩

end Machine

end Sys2Proof
end

section
/-! Proofs for 45_host_operations.md: RESET, the queries and registrations, and the snapshot of the 16 slots. -/

namespace Sys2Proof.Machine

/-! ### RESET, the queries, the registrations -/

/-- RESET replaces the device, whatever it was, and returns nothing. -/
theorem exec_reset (s : State) : exec .reset s = .next { s with dev := Device.reset, result := .nothing } := rfl

/-- Settles O29: `Device.reset` is the table of R47, element by element. -/
theorem resetGivesTheTabulatedDevice : Obligations.ResetGivesTheTabulatedDevice := exec_reset

/-- Settles O30: the queries answer with the device and the environment as they are, the registrations with the device as
it is and their one callback rebound. -/
theorem queriesOnlyReadAndRegistrationsOnlyBind : Obligations.QueriesOnlyReadAndRegistrationsOnlyBind :=
  fun _ _ _ => ⟨rfl, rfl, rfl, rfl, rfl, rfl⟩

/-! ### The constructed state (R221) -/

/-- The default parameters are a well-formed setting (00_scope.md R7). -/
theorem wf_default : Config.default.wf = true := by decide

/-- The access modes of the default parameters are the two of 44_port_io_handshake.md R196. -/
theorem accessSparesFixed_reset : State.reset.AccessSparesFixed := by
  unfold State.AccessSparesFixed
  decide

/-- Settles O43: RESET's device is legal and its lines fit; nothing is pending, and RESET writes what is there. -/
theorem constructedStateIsLegalAndResetKeepsIt : Obligations.ConstructedStateIsLegalAndResetKeepsIt :=
  ⟨⟨wf_default, legal_reset _⟩, linesFit_of_dev_reset ⟨rfl, rfl, rfl⟩ rfl, accessSparesFixed_reset,
    fun _ ho => absurd ho List.not_mem_nil, exec_reset State.reset⟩

/-! ### GETREGSTATE (R216) -/

/-- GETREGSTATE returns the snapshot; only its evaluations of the ports reach the state. -/
theorem exec_getRegState (s : State) :
    exec .getRegState s = .next { s with env := snapshotEnv s, result := .registers (snapshot s) } := rfl

/-- The snapshot's calls rebind no callback. -/
theorem snapshotEnv_registrations (s : State) :
    (snapshotEnv s).portACb = s.env.portACb ∧ (snapshotEnv s).portBCb = s.env.portBCb ∧
      (snapshotEnv s).updateCb = s.env.updateCb := by
  simp only [snapshotEnv, effA, effB]
  rw [portAIn_frame, portBIn_frame]
  exact ⟨rfl, rfl, rfl⟩

/-- The effective port-A value is the same after an evaluation of port B, which rebinds nothing and leaves the port-A
draws alone (log 5). -/
theorem effA_effB_fst (c : Config) (v : Device) (e : Env) : (effA v (effB c v e).2).1 = (effA v e).1 := by
  have hcb : (portBIn v e).2.portACb = e.portACb := by rw [portBIn_frame]
  have hdraws : (portBIn v e).2.drawsA = e.drawsA := by rw [portBIn_frame]
  exact congrArg (mergePort v.ora v.ddra) (portAIn_congr v v _ e rfl rfl hcb hdraws)

theorem snapshot_length (s : State) : (snapshot s).length = 16 := by simp [snapshot]

/-- Byte `a` of the snapshot is the view of the slot that address `a` selects, both ports evaluated in `s`. -/
theorem snapshot_getElem? (s : State) (a : BitVec 4) :
    (snapshot s)[a.toNat]? =
      some (slotView (effA s.dev s.env).1 (effB s.cfg s.dev s.env).1 s.dev (s.cfg.regmap.slotAt a)) := by
  have ha : a.toNat < s.cfg.regmap.slots.toList.length := by simpa using a.isLt
  simp only [snapshot, effA_effB_fst, List.getElem?_map, List.getElem?_eq_getElem ha]
  rfl

/-- Settles O31: a READ returns the view of its slot, and so does the snapshot at that slot's address. -/
theorem snapshotAgreesWithEveryRead : Obligations.SnapshotAgreesWithEveryRead := by
  intro s
  obtain ⟨hA, hB, hupd⟩ := snapshotEnv_registrations s
  exact ⟨_, _, exec_getRegState s, snapshot_length s, hA, hB, hupd, fun a =>
    ⟨_, _, exec_readInstr (s.cfg.regmap.slotAt a) s, rfl, snapshot_getElem? s a⟩⟩

end Sys2Proof.Machine
end

section
/-! Proofs for 60_exceptions.md: that no operation and no accepted trace stops, the composite interrupt signal, and the
events that set and clear the flags. -/

namespace Sys2Proof.Machine

/-! ### No operation stops, and no accepted trace does (R230) -/

/-- Settles O32: the next state that `exec_eq_next` names. -/
theorem everyOperationCompletes : Obligations.EveryOperationCompletes := by
  intro i s
  obtain ⟨e, r, h⟩ := exec_eq_next i s
  exact ⟨_, h⟩

/-- Settles O45: with nothing issued a step changes nothing; else the oldest operation decodes and completes, and it
leaves the register map and the rest of the sequence as they are. -/
theorem acceptedTracesNeverStop : Obligations.AcceptedTracesNeverStop := by
  intro s hs
  cases hp : s.pending with
  | nil => exact ⟨s, step_of_pending_nil hp, hs⟩
  | cons o rest =>
    rw [State.TraceOk, hp] at hs
    obtain ⟨⟨i, hd⟩, hrest⟩ := List.forall_mem_cons.1 hs
    obtain ⟨e, r, hexec⟩ := exec_eq_next i { s with pending := rest }
    exact ⟨_, (stepRunsTheDecodedOperation s o rest i hp hd).trans hexec, hrest⟩

/-! ### The composite interrupt signal (R234) -/

/-- Two flag sets have a common flag when their conjunction is not 0. -/
theorem and_ne_zero_iff_getLsbD (f g : FlagSet) :
    f &&& g ≠ 0 ↔ ∃ k, k < 7 ∧ f.getLsbD k = true ∧ g.getLsbD k = true := by
  refine (not_congr BitVec.zero_iff_eq_false).trans (not_forall.trans (exists_congr fun k => ?_))
  rw [Bool.not_eq_false, BitVec.getLsbD_and, Bool.and_eq_true]
  exact ⟨fun h => ⟨BitVec.lt_of_getLsbD h.1, h⟩, And.right⟩

theorem irq_iff (v : Device) :
    irq v = true ↔ ∃ k, k < 7 ∧ v.ifr.getLsbD k = true ∧ v.ier.getLsbD k = true := by
  rw [irq, bne_iff_ne, and_ne_zero_iff_getLsbD]

/-- GETIRQ's byte is nonzero exactly when the signal is set (log 12). -/
theorem irqByte_ne_zero_iff (v : Device) : irqByte v ≠ 0 ↔ irq v = true := by
  rw [irqByte]
  cases irq v <;> decide

theorem setWidth_withBit7 (top : Bool) (f : FlagSet) : (withBit7 top f).setWidth 7 = f := BitVec.setWidth_cons

theorem getLsbD_7_withBit7 (top : Bool) (f : FlagSet) : (withBit7 top f).getLsbD 7 = top := by
  rw [withBit7, BitVec.getLsbD_cons, if_pos rfl]

/-- GETIRQ changes nothing and returns the signal's byte. -/
theorem exec_getIrq (s : State) : exec .getIrq s = .next { s with result := .byte (irqByte s.dev) } := rfl

/-- Settles O6: both bytes show `irq`, READ IFR in bit 7 and GETIRQ by being nonzero. -/
theorem compositeIsSetIffAnEnabledFlagIsSet : Obligations.CompositeIsSetIffAnEnabledFlagIsSet := by
  intro s
  have hbit7 : (ifrByte s.dev).getLsbD 7 = irq s.dev := getLsbD_7_withBit7 _ _
  refine ⟨_, _, exec_readInstr .ifr s, exec_getIrq s, setWidth_withBit7 _ _, ?_, ?_⟩
  · exact hbit7 ▸ irq_iff s.dev
  · exact hbit7 ▸ irqByte_ne_zero_iff s.dev

/-! ### The events that clear a flag (R232, R236) -/

/-- `set_ifr` with value 0 clears the flags of its mask and keeps the others. -/
theorem getLsbD_setIfr_false (m : Byte) (v : Device) {k : Nat} (hk : k < 7) :
    (setIfr m false v).ifr.getLsbD k = (!(low7 m).getLsbD k && v.ifr.getLsbD k) := by
  rw [setIfr_ifr_false, BitVec.getLsbD_and, BitVec.getLsbD_not, decide_eq_true hk, Bool.true_and, Bool.and_comm]

/-- At the mask of one flag, it clears that flag alone. -/
theorem getLsbD_setIfr_flagMask_false {i : Fin 7} {n : Nat} (hi : i.val = n) (v : Device) {k : Nat} (hk : k < 7) :
    (setIfr (flagMask i) false v).ifr.getLsbD k = (!decide (k = n) && v.ifr.getLsbD k) := by
  rw [getLsbD_setIfr_false _ v hk, getLsbD_low7_flagMask, hi]

/-- At the data byte of WRITE IFR, it clears the flags whose data bits are 1. -/
theorem getLsbD_setIfr_and_0x7F_false (d : Byte) (v : Device) {k : Nat} (hk : k < 7) :
    (setIfr (d &&& 0x7F) false v).ifr.getLsbD k = (!d.getLsbD k && v.ifr.getLsbD k) := by
  rw [getLsbD_setIfr_false _ v hk, low7_and_0x7F, BitVec.getLsbD_setWidth, decide_eq_true hk, Bool.true_and]

/-! ### The events that set a flag (R236) -/

section
variable {s : State} (h : s.DefaultBits) (h4 : s.DefaultMode4)
include h h4

/-- The eighth shift sets the shift register's flag (43_shift_register.md R179). -/
theorem afterExecute_ifr_sr : s.afterExecute.dev.ifr.getLsbD 2 =
    (s.dev.ifr.getLsbD 2 || (s.shiftMoves && decide (s.dev.shift.shifted = 7))) := by
  cases hm : s.shiftMoves
  · obtain ⟨-, -, -, -, hkept⟩ := afterExecute_of_not_moves h (fun _ => h4) hm
    rw [hkept, Bool.false_and, Bool.or_false]
  · obtain ⟨-, -, -, -, hset⟩ := afterExecute_of_moves h (fun _ => h4) hm
    rw [hset, Bool.true_and]

/-- An EXECUTE sets the flags that `setsFlag` names and clears none. -/
theorem afterExecute_ifr_eq_setsFlag (k : Nat) :
    s.afterExecute.dev.ifr.getLsbD k = (setsFlag s k .execute || s.dev.ifr.getLsbD k) := by
  rw [setsFlag, Bool.or_comm]
  by_cases hsr : k = 2
  · subst hsr
    simp [-BitVec.getLsbD_eq_getElem, afterExecute_ifr_sr h h4]
  · obtain ⟨b, hflags⟩ := afterExecute_ifr h
    simp [-BitVec.getLsbD_eq_getElem, hflags, hsr, Bool.or_assoc]

end

/-- Settles O36: EXECUTE sets flags and clears none, RESET clears all. WRITE IFR, READ T1CL and T2CL, WRITE T1CH
and T2CH, and both accesses of SR clear flags by `setIfr`; the updates of the other operations do not name `IFR`. -/
theorem flagsChangeByTheListedEventsOnly : Obligations.FlagsChangeByTheListedEventsOnly := by
  intro i s t k h h4 hk hexec
  obtain ⟨e, r, rfl⟩ := exec_next hexec
  have ⟨hbits, _, _⟩ := h
  cases i
  case execute => exact afterExecute_ifr_eq_setsFlag h h4 k
  case reset => exact BitVec.getLsbD_zero
  case wIfr d => exact getLsbD_setIfr_and_0x7F_false d _ hk
  case rT1cl | wT1ch => exact getLsbD_setIfr_flagMask_false (congrArg (·.t1.val) hbits) _ hk
  case rT2cl | wT2ch => exact getLsbD_setIfr_flagMask_false (congrArg (·.t2.val) hbits) _ hk
  case rSr | wSr => exact getLsbD_setIfr_flagMask_false (congrArg (·.sr.val) hbits) _ hk
  all_goals rfl

end Sys2Proof.Machine
end

section
/-! Proofs for 70_reset_and_hazards.md: the reset state left alone (R261). Each part of EXECUTE before the count of `clk` does
nothing under some condition, and the reset state meets all of these, whatever `clk` is. -/

namespace Sys2Proof

/-- A cleared ACR selects the disabled shift mode (43_shift_register.md R170). -/
theorem srClass_zero {c : Config} (h : c.acrLayout = AcrLayout.default) : c.srClass 0x00 = .disabled := by
  rw [Config.srClass, srMode_default c h]
  rfl

namespace Machine

/-! ### When the parts of EXECUTE do nothing (42_execute_timers.md R150) -/

section
variable (c : Config) {v : Device}

theorem t1Step_of_stopped (h : v.t1.enabled = false) : t1Step c v = v := by simp [t1Step, h]

theorem t2Step_of_stopped (h : v.t2.enabled = false) : t2Step c v = v := by simp [t2Step, h]

theorem srClock_of_disabled (h : c.srClass v.acr = .disabled) : srClock c v = v := by simp [srClock, srClockTicks, h]

/-- Lines that are high already stay so, whatever their modes (44_port_io_handshake.md R200). -/
theorem pulseRestore_of_high (hca2 : v.ca2State = true) (hcb2 : v.cb2State = true) : pulseRestore c v = v := by
  cases v
  simp_all [pulseRestore]

end

/-! ### EXECUTE in the reset state -/

/-- The device in the reset state but for `clk` (R261). -/
def Device.resetAt (n : Nat) : Device := { Device.reset with clk := n }

/-- With every pin an input the merge is the input (R190). -/
theorem mergePort_direction_zero (output input : Byte) : mergePort output 0x00 input = input :=
  (congrArg₂ (· ||| ·) BitVec.and_zero BitVec.and_allOnes).trans BitVec.zero_or

/-- The sub-counter wraps, and is reloaded from a stored 0x00 (43_shift_register.md R181). -/
theorem srSubCounter_resetAt (n : Nat) : srSubCounter (.resetAt n) = .resetAt n := rfl

section
variable {c : Config} (h : c.acrLayout = AcrLayout.default) (n : Nat)
include h

theorem deviceAtObserve_resetAt : deviceAtObserve c (.resetAt n) = .resetAt n := by
  have ht1 : t1Step c (.resetAt n) = .resetAt n := t1Step_of_stopped c rfl
  have ht2 : t2Step c (.resetAt n) = .resetAt n := t2Step_of_stopped c rfl
  have hsr : srClock c (.resetAt n) = .resetAt n := srClock_of_disabled c (srClass_zero h)
  rw [deviceAtObserve, ht1, ht2, hsr, srSubCounter_resetAt]

theorem executeDevice_resetAt : executeDevice c (.resetAt n) = .resetAt (clkSucc c n) := by
  have hrestore : pulseRestore c (.resetAt n) = .resetAt n := pulseRestore_of_high c rfl rfl
  rw [executeDevice, deviceAtObserve_resetAt h, hrestore]
  rfl

/-- All pins of port B are inputs and Timer 1 does not drive bit 7, so the effective value is the input (R194). -/
theorem effB_resetAt (e : Env) : effB c (.resetAt n) e = portBIn (.resetAt n) e := by
  have hpb7 : c.pb7Control (Device.resetAt n).acr = false := pb7Control_default c h 0x00
  rw [effB, drivePb7, hpb7]
  exact Prod.ext (mergePort_direction_zero _ _) rfl

/-- What an observer is shown (R204): no shift clock and no shifted bit, so the plain lines. -/
theorem observation_resetAt (portB : Byte) : observation c (.resetAt n) portB =
    { ora := 0x00, portB := portB, ca1 := false, ca2 := true, cb1 := false, cb2 := true } := by
  have hcb1 : effCb1 c (.resetAt n) = false := by
    have hclass : c.srClass (Device.resetAt n).acr = .disabled := srClass_zero h
    rw [effCb1_eq_ite, hclass]
    rfl
  have hcb2 : effCb2 c (.resetAt n) = true := by
    have hout : c.shiftsOut (Device.resetAt n).acr = false := shiftsOut_default c h 0x00
    rw [effCb2, hout]
    rfl
  rw [observation, hcb1, hcb2]
  rfl

end

/-- One EXECUTE more (42_execute_timers.md R159). -/
theorem clkAfter_succ (c : Config) (n k : Nat) : clkAfter c n (k + 1) = clkSucc c (clkAfter c n k) := by
  cases hw : c.clkWidth with
  | none => simp [clkAfter, clkSucc, hw, Nat.add_assoc]
  | some w => cases k <;> simp [clkAfter, clkSucc, hw, Nat.add_assoc]

theorem clkAfter_zero (c : Config) (n : Nat) : clkAfter c n 0 = n := by
  unfold clkAfter
  cases c.clkWidth <;> rfl

section
variable {s : State} {n : Nat} (h : s.DefaultBits) (hdev : s.dev = .resetAt n)
include h hdev

theorem exec_execute_of_reset : exec .execute s = .next { s with
    dev := .resetAt (clkAfter s.cfg n 1), env := s.afterExecute.env, result := .nothing } := by
  obtain ⟨-, hacr, -⟩ := h
  rw [clkAfter_succ, clkAfter_zero, ← executeDevice_resetAt hacr, ← hdev]
  exact exec_execute s

/-- A registered observer is called with the reset state's tuple, after one evaluation of port B. -/
theorem afterExecute_env_of_reset {r : SinkRef} (hr : s.env.updateCb = some r) :
    s.afterExecute.env = { (portBIn s.dev s.env).2 with
      calls := .observed r
        { ora := 0x00, portB := (portBIn s.dev s.env).1, ca1 := false, ca2 := true, cb1 := false, cb2 := true }
          :: (portBIn s.dev s.env).2.calls } := by
  obtain ⟨-, hacr, -⟩ := h
  rw [afterExecute_env, observe_registered _ _ hr, State.atObserve, hdev, deviceAtObserve_resetAt hacr,
    effB_resetAt hacr, observation_resetAt hacr]

/-- Without an observer any number of EXECUTEs changes `clk`, and the answer of the operation before them, alone. -/
theorem iterate_afterExecute_of_reset (hnone : s.env.updateCb = none) (k : Nat) :
    State.afterExecute^[k] s =
      { s with dev := .resetAt (clkAfter s.cfg n k), result := if k = 0 then s.result else .nothing } := by
  have ⟨_, hacr, _⟩ := h
  induction k with
  | zero => rw [clkAfter_zero, ← hdev]; rfl
  | succ k ih =>
    rw [Function.iterate_succ_apply', ih, State.afterExecute, observe_absent _ _ _ hnone, executeDevice_resetAt hacr,
      clkAfter_succ]
    rfl

end

/-- Settles O59: the device and the environment after one EXECUTE, and the run of `k` by induction. -/
theorem resetStateIsAFixedPointButForClk : Obligations.ResetStateIsAFixedPointButForClk := by
  intro s n h hdev
  refine ⟨⟨_, exec_execute_of_reset h hdev, observe_absent _ _ _, fun r hr => ?_⟩, fun k hnone => ?_⟩
  · exact ⟨_, _, portBEvaluates_portBIn s, afterExecute_env_of_reset h hdev hr⟩
  · rw [execAll_pseudoX, iterate_afterExecute_of_reset h hdev hnone]
    rfl

end Machine

end Sys2Proof
end
